-- ==== Sys2Proof/Word.lean ====
section
/-! DEFINITION. The words of the block: every width is fixed by the frame format (bytes) and by the payload
layouts (8, 16 and 32-bit fields), rule R6's last sentence. -/

namespace Sys2Proof

/-- A byte, 0..255; bit 7 is the most significant (R7). -/
abbrev Byte := BitVec 8

/-- A 16-bit payload field (`u16` or `s16` of R48). -/
abbrev Half := BitVec 16

/-- A 32-bit payload field (`u32` or `s32` of R48, and an IPv4 address of R113). -/
abbrev Long := BitVec 32

end Sys2Proof
end

