-- ==== Sys2Proof/Config.lean ====
section
/-! DEFINITION. The parameters of R6 that are not fixed numbers. `JOINT_ORDER`, `NUM` and `VIBRO_RESERVED` are plain
data of State (a statement about every state holds for every value of them); `VIBRO_ROUND_TIES`, for which R6 names
no default, is an opaque constant. `P_RXFIFO_DEPTH` is unbounded (R6, D20): the streams are lists. -/

namespace Sys2Proof

/-- `JOINT_ORDER` (R6, R16, R94): which interleave of the first ten tail values is dip and which pip. -/
inductive JointOrder where
  | dipOdd
  | pipOdd
  deriving DecidableEq, Repr

/-- `NUM` (R6, R101): how the scaled outputs are rendered beside the exact rationals, which are always kept.
`exact` renders nothing; `binary64` is the default, IEEE 754 binary64 with round to nearest even. -/
inductive NumFormat where
  | exact
  | binary64
  deriving DecidableEq, Repr

/-- The configuration of the block (R6, R16): fixed for a run, written by no step. -/
structure Config where
  jointOrder    : JointOrder
  num           : NumFormat
  /-- `VIBRO_RESERVED` (R54): what the host puts into the reserved sixth byte of a vibro payload. -/
  vibroReserved : Byte
  deriving DecidableEq, Repr

/-- The defaults of R6: `DIP_ODD`, binary64, `0x00`. -/
def Config.initial : Config :=
  { jointOrder := .dipOdd, num := .binary64, vibroReserved := 0x00 }

/-- `VIBRO_ROUND_TIES` (R6, R125, D29), left OPEN by the spec: a free value, nothing is known of it. Whether a tie between
`f` and `f + 1` goes up, for each `f`: every tie rule is one such function. -/
opaque Config.vibroTieUp : Nat → Bool

/-- Whether the frame of a write that timed out reached `TX_STREAM`, for each such write (R63): the spec says to assume neither
(N13), and that a frame is appended whole or not at all (D30). A free value, nothing is known of it
(notes/assumptions/13.md). -/
opaque Config.timedOutWriteLands : Nat → Bool

/-- The byte at offset `i` of a sequence under construction that was extended past `i` without `i` being set (R31): no rule
gives it a value. A free value, nothing is known of it (notes/assumptions/35.md). -/
opaque Config.gapByte : Nat → Byte

end Sys2Proof
end

