-- ==== Sys2Proof/Syntax.lean ====
section
/-! DEFINITION. The instructions: one constructor per row of spec/opcode_table.json, in the table's order. Twenty frame
kinds (R50, R106 to R125) and the block's eleven operations (R50, R60, R66 to R77, R88, R92). -/

namespace Sys2Proof

/-- `RX_STATE` (R13): where in a frame the next received byte falls. `endMark` is the spec's `END`. -/
inductive RxState where
  | hunt
  | type
  | len
  | payload
  | csum
  | endMark
  deriving DecidableEq, Repr

/-- The direction of a frame row (R58): `tx` host to glove, `rx` glove to host. -/
inductive Dir where
  | tx
  | rx
  deriving DecidableEq, Repr

/-- One constructor per row of spec/opcode_table.json. The operands of a frame kind are its payload fields (R34, R35,
R113 to R125), reserved bytes included, so that no bit of a frame is dropped. -/
inductive Instr where
  /-- `SMODE.QUAT` (R106): start streaming in quaternion mode. -/
  | smodeQuat
  /-- `SMODE.RAW` (R107): start streaming in raw-IMU mode. -/
  | smodeRaw
  /-- `SMODE.OFF` (R108): stop streaming, first half. -/
  | smodeOff
  /-- `SAMPLE.RAW` (R109, layout R34): subtype `0x03` is implied. -/
  | sampleRaw (deviceId : Half) (clockMs : Long) (imu : Vector Half 18) (tail : Vector Half 24)
  /-- `SAMPLE.QUAT` (R110, layout R35): the subtype is any byte other than `0x03`. -/
  | sampleQuat (subtype : Byte) (deviceId : Half) (clockMs : Long) (quat : Vector Long 8) (tail : Vector Half 24)
  /-- `STOP` (R111): stop, generic. -/
  | stop
  /-- `INFO.REQ` (R112). -/
  | infoReq
  /-- `INFO.RSP` (R113): the 18-byte layout with its two reserved bytes. -/
  | infoRsp (deviceType reserved1 : Byte) (deviceId : Half) (address netmask gateway : Long) (dhcp reserved17 : Byte)
  /-- `SETID.REQ id` (R114). -/
  | setidReq (id : Half)
  /-- `SETID.RSP` (R115): the echoed id. -/
  | setidRsp (id : Half)
  /-- `REBOOT` (R116). -/
  | reboot
  /-- `LABEL.GET` (R117). -/
  | labelGet
  /-- `LABEL.SET s` (R118): the 16-byte null-padded field, 16 opaque bytes. -/
  | labelSet (label : Vector Byte 16)
  /-- `LABEL.RSP` (R119). -/
  | labelRsp (label : Vector Byte 16)
  /-- `FWVER.REQ` (R120). -/
  | fwverReq
  /-- `FWVER.RSP` (R121). -/
  | fwverRsp (major minor patch : Byte)
  /-- `CALIB.START` (R122). -/
  | calibStart
  /-- `CALIB.STAGE` (R123). -/
  | calibStage (stage : Byte)
  /-- `POWEROFF` (R124). -/
  | poweroff
  /-- `VIBRO b0 b1 b2 b3 b4` (R125) with the reserved sixth byte as the host gave it (R54). -/
  | vibro (b0 b1 b2 b3 b4 reserved : Byte)
  /-- `ENCODE` (R60): any type, any payload. -/
  | encode (type : Byte) (payload : List Byte)
  /-- `RX.DISCARD` (R66): a byte other than `0x24` in `HUNT`. -/
  | rxDiscard (b : Byte)
  /-- `RX.SOF` (R67): the byte `0x24` in `HUNT`. -/
  | rxSof
  /-- `RX.TYPE` (R68). -/
  | rxType (b : Byte)
  /-- `RX.LEN` (R69). -/
  | rxLen (b : Byte)
  /-- `RX.PAYLOAD` (R70). -/
  | rxPayload (b : Byte)
  /-- `RX.CSUM` (R72). -/
  | rxCsum (b : Byte)
  /-- `RX.END` (R73). -/
  | rxEnd (b : Byte)
  /-- `ABORT` (R77): the transport's read timeout, in place of a byte. -/
  | abort
  /-- `SDEC.RAW` (R85, R88): a payload whose byte 0 is `0x03`. -/
  | sdecRaw (payload : List Byte)
  /-- `SDEC.QUAT` (R85, R92): any other payload. -/
  | sdecQuat (payload : List Byte)
  deriving DecidableEq, Repr

/-- What the machine fetches, by the `format` of the opcode table's rows (R58): a whole frame with its direction, one
received byte with the `RX_STATE` it falls in, or an operation with its operands. -/
inductive Packet where
  | frame (dir : Dir) (F : List Byte)
  | rxByte (q : RxState) (b : Byte)
  | abort
  | encode (type : Byte) (payload : List Byte)
  | sdec (payload : List Byte)
  deriving DecidableEq, Repr

end Sys2Proof
end

