-- ==== Sys2Proof/WellFormed.lean ====
section
/-! DEFINITION. Which instructions the opcode table's match, negate and constraint columns admit (R58). A payload that
is too long for ENCODE, or of a length SDEC rejects, is not ill-formed: those operations run and raise their error. -/

namespace Sys2Proof

/-- The table's negated and positive byte matches (R58): `SAMPLE.QUAT` has a subtype other than `0x03` (R110),
`RX.DISCARD` a byte other than `0x24` (R66), `SDEC.RAW` payload byte 0 equal to `0x03` and `SDEC.QUAT` not (R85). -/
def Instr.wellFormed : Instr → Bool
  | .smodeQuat => true
  | .smodeRaw => true
  | .smodeOff => true
  | .sampleRaw _ _ _ _ => true
  | .sampleQuat subtype _ _ _ _ => subtype != 0x03
  | .stop => true
  | .infoReq => true
  | .infoRsp _ _ _ _ _ _ _ _ => true
  | .setidReq _ => true
  | .setidRsp _ => true
  | .reboot => true
  | .labelGet => true
  | .labelSet _ => true
  | .labelRsp _ => true
  | .fwverReq => true
  | .fwverRsp _ _ _ => true
  | .calibStart => true
  | .calibStage _ => true
  | .poweroff => true
  | .vibro _ _ _ _ _ _ => true
  | .encode _ _ => true
  | .rxDiscard b => b != 0x24
  | .rxSof => true
  | .rxType _ => true
  | .rxLen _ => true
  | .rxPayload _ => true
  | .rxCsum _ => true
  | .rxEnd _ => true
  | .abort => true
  | .sdecRaw P => P.head? == some 0x03
  | .sdecQuat P => P.head? != some 0x03

end Sys2Proof
end

