-- ==== Sys2Proof/Decode.lean ====
section
/-! DEFINITION. The frame format (R40 to R47), field extraction (R28 to R31, R48), the decoder of fetched packets, total
and rejecting by name, and the encoder, from spec/opcode_table.json and R106 to R126. -/

namespace Sys2Proof

/-! ### The constants of R6 and R50 -/

/-- `START` (R6, R45). -/
def startMarker : Byte := 0x24
/-- `END` (R6, R45). -/
def endMarker : Byte := 0x23
/-- `P_MAXPAY` (R6, R61): the largest payload a frame can carry. -/
def maxPayload : Nat := 253
/-- `RAW_SUBTYPE` (R6, R51). -/
def rawSubtype : Byte := 0x03
/-- `RAW_PAYLEN` (R6, R86). -/
def rawPaylen : Nat := 91
/-- `QUAT_PAYLEN` (R6, R86). -/
def quatPaylen : Nat := 87
/-- Type `0x0A` (R50): sampling mode and streaming samples, `SAMPLE_TYPE` of R6. -/
def tySample : Byte := 0x0A
/-- Type `0x0B` (R50): generic stop. -/
def tyStop : Byte := 0x0B
/-- Type `0x0C` (R50): device info. -/
def tyInfo : Byte := 0x0C
/-- Type `0x0D` (R50): set device id. -/
def tySetid : Byte := 0x0D
/-- Type `0x0E` (R50): reboot. -/
def tyReboot : Byte := 0x0E
/-- Type `0x11` (R50): label get and set. -/
def tyLabel : Byte := 0x11
/-- Type `0x13` (R50): firmware version. -/
def tyFwver : Byte := 0x13
/-- Type `0x31` (R50): calibration. -/
def tyCalib : Byte := 0x31
/-- Type `0x40` (R50): power off. -/
def tyPoweroff : Byte := 0x40
/-- Type `0x60` (R50): vibro feedback. -/
def tyVibro : Byte := 0x60

/-! ### Byte order and field access -/

/-- `sum8` (R8): the sum of the bytes modulo 256. -/
def sum8 : List Byte → Byte
  | [] => 0
  | b :: s => b + sum8 s

/-- `MemRead(o, 1)` (R30), defined only when the byte lies in the payload. -/
def memRead8 (P : List Byte) (o : Nat) (h : o + 1 ≤ P.length) : Byte :=
  P[o]'(by omega)

/-- `MemRead(o, 2)`, `be16` (R8, R28, R30): the byte at the lower offset is the more significant. -/
def memRead16 (P : List Byte) (o : Nat) (h : o + 2 ≤ P.length) : Half :=
  P[o]'(by omega) ++ P[o + 1]'(by omega)

/-- `MemRead(o, 4)`, `be32` (R8, R28, R30). -/
def memRead32 (P : List Byte) (o : Nat) (h : o + 4 ≤ P.length) : Long :=
  P[o]'(by omega) ++ P[o + 1]'(by omega) ++ P[o + 2]'(by omega) ++ P[o + 3]'(by omega)

/-- The bytes `MemWrite(o, 2, v)` stores (R31): big-endian. -/
def bytes16 (v : Half) : List Byte :=
  [v.extractLsb' 8 8, v.extractLsb' 0 8]

/-- The bytes `MemWrite(o, 4, v)` stores (R31): big-endian. -/
def bytes32 (v : Long) : List Byte :=
  [v.extractLsb' 24 8, v.extractLsb' 16 8, v.extractLsb' 8 8, v.extractLsb' 0 8]

/-- `MemWrite(o, n, v)` (R31) on the byte sequence under construction: byte `o + i` receives
`(v div 2^(8(n-1-i))) mod 256`. Where `o` lies beyond the end of the sequence, a case R31 does not speak of, the sequence
grows up to `o` by free values (DESIGN CHOICE, notes/assumptions/35.md). -/
def memWrite (P : List Byte) (o n v : Nat) : List Byte :=
  P.take o ++ (List.range (o - P.length)).map (fun i => Config.gapByte (P.length + i)) ++
    (List.range n).map (fun i => BitVec.ofNat 8 (v / 2 ^ (8 * (n - 1 - i)))) ++ P.drop (o + n)

/-- `sext_16` of a 16-bit reading (R8): two's complement. -/
def sext16 (v : Half) : Int := v.toInt

/-- `sext_32` of a 32-bit reading (R8). -/
def sext32 (v : Long) : Int := v.toInt

/-! ### The frame (R40) -/

/-- The bytes a frame's checksum covers (R44): start, type, length, payload. -/
def frameBody (t : Byte) (p : List Byte) : List Byte :=
  startMarker :: t :: BitVec.ofNat 8 (p.length + 2) :: p

/-- The frame of type `t` and payload `p` (R40, R60): meaningful when the payload has at most 253 bytes. -/
def mkFrame (t : Byte) (p : List Byte) : List Byte :=
  frameBody t p ++ [sum8 (frameBody t p), endMarker]

/-- `WellFormed(F)` (R59), its six conditions in R59's order. -/
def WellFormedFrame (F : List Byte) : Prop :=
  5 ≤ F.length ∧ F[0]? = some startMarker ∧ (∃ l, F[2]? = some l ∧ 2 ≤ l.toNat ∧ F.length = l.toNat + 3) ∧
    F[F.length - 2]? = some (sum8 (F.take (F.length - 2))) ∧ F[F.length - 1]? = some endMarker

/-- Why the decoder rejects a fetched packet. -/
inductive DecodeError where
  /-- A frame has at least 5 bytes (R40). -/
  | tooShort
  /-- Byte 0 is not `0x24` (R45). -/
  | badStart
  /-- The length byte is 0 or 1 (R52). -/
  | badLength
  /-- The frame does not have length byte + 3 bytes (R46). -/
  | lengthMismatch
  /-- The checksum byte is not `sum8` of the covered bytes (R44). -/
  | badChecksum
  /-- The last byte is not `0x23` (R45). -/
  | badEnd
  /-- A valid frame, but no host-to-glove row of the table has this type and payload shape (R50, R53). -/
  | noSuchRequest (type : Byte) (payloadLength : Nat)
  /-- A valid frame, but no glove-to-host row of the table has this type and payload shape (R50, R53). -/
  | noSuchResponse (type : Byte) (payloadLength : Nat)
  deriving DecidableEq, Repr

/-- Splits a frame into type and payload after the checks of R59, rejecting by name. -/
def splitFrame : List Byte → Except DecodeError (Byte × List Byte)
  | st :: t :: l :: rest =>
    if st ≠ startMarker then .error .badStart
    else if l.toNat < 2 then .error .badLength
    else match rest.drop (l.toNat - 2) with
      | [cs, e] =>
        if cs ≠ sum8 (st :: t :: l :: rest.take (l.toNat - 2)) then .error .badChecksum
        else if e ≠ endMarker then .error .badEnd
        else .ok (t, rest.take (l.toNat - 2))
      | _ => .error .lengthMismatch
  | _ => .error .tooShort

/-! ### Payload layouts -/

/-- The raw-IMU payload (R34). -/
def rawPayload (deviceId : Half) (clockMs : Long) (imu : Vector Half 18) (tail : Vector Half 24) : List Byte :=
  rawSubtype :: (bytes16 deviceId ++ bytes32 clockMs ++ imu.toList.flatMap bytes16 ++ tail.toList.flatMap bytes16)

/-- The quaternion payload (R35). -/
def quatPayload (subtype : Byte) (deviceId : Half) (clockMs : Long) (quat : Vector Long 8) (tail : Vector Half 24) : List Byte :=
  subtype :: (bytes16 deviceId ++ bytes32 clockMs ++ quat.toList.flatMap bytes32 ++ tail.toList.flatMap bytes16)

/-- The device-info payload (R113). -/
def infoPayload (deviceType reserved1 : Byte) (deviceId : Half) (address netmask gateway : Long) (dhcp reserved17 : Byte) : List Byte :=
  [deviceType, reserved1] ++ bytes16 deviceId ++ bytes32 address ++ bytes32 netmask ++ bytes32 gateway ++ [dhcp, reserved17]

/-- The fields of a raw-IMU payload (R34). -/
def readRaw (P : List Byte) (h : P.length = 91) : Instr :=
  .sampleRaw (memRead16 P 1 (by omega)) (memRead32 P 3 (by omega))
    (Vector.ofFn fun i => memRead16 P (7 + 2 * i.val) (by omega))
    (Vector.ofFn fun j => memRead16 P (43 + 2 * j.val) (by omega))

/-- The fields of a quaternion payload (R35). -/
def readQuat (P : List Byte) (h : P.length = 87) : Instr :=
  .sampleQuat (memRead8 P 0 (by omega)) (memRead16 P 1 (by omega)) (memRead32 P 3 (by omega))
    (Vector.ofFn fun i => memRead32 P (7 + 4 * i.val) (by omega))
    (Vector.ofFn fun j => memRead16 P (39 + 2 * j.val) (by omega))

/-- The fields of a device-info payload (R113). -/
def readInfo (P : List Byte) (h : P.length = 18) : Instr :=
  .infoRsp (memRead8 P 0 (by omega)) (memRead8 P 1 (by omega)) (memRead16 P 2 (by omega)) (memRead32 P 4 (by omega))
    (memRead32 P 8 (by omega)) (memRead32 P 12 (by omega)) (memRead8 P 16 (by omega)) (memRead8 P 17 (by omega))

/-! ### The decoder -/

/-- The host-to-glove rows (R106 to R108, R111, R112, R114, R116 to R118, R120, R122, R124, R125). -/
def decodeTx (t : Byte) (p : List Byte) : Except DecodeError Instr :=
  if t = tySample then
    if p = [0x01] then .ok .smodeQuat
    else if p = [0x03] then .ok .smodeRaw
    else if p = [0x00] then .ok .smodeOff
    else .error (.noSuchRequest t p.length)
  else if t = tyStop ∧ p = [] then .ok .stop
  else if t = tyInfo ∧ p = [] then .ok .infoReq
  else if h : t = tySetid ∧ p.length = 2 then .ok (.setidReq (memRead16 p 0 (by omega)))
  else if t = tyReboot ∧ p = [] then .ok .reboot
  else if t = tyLabel ∧ p = [] then .ok .labelGet
  else if h : t = tyLabel ∧ p.length = 16 then .ok (.labelSet ⟨p.toArray, by simpa using h.2⟩)
  else if t = tyFwver ∧ p = [] then .ok .fwverReq
  else if t = tyCalib ∧ p = [] then .ok .calibStart
  else if t = tyPoweroff ∧ p = [] then .ok .poweroff
  else if h : t = tyVibro ∧ p.length = 6 then
    .ok (.vibro (p[0]'(by omega)) (p[1]'(by omega)) (p[2]'(by omega)) (p[3]'(by omega)) (p[4]'(by omega)) (p[5]'(by omega)))
  else .error (.noSuchRequest t p.length)

/-- The glove-to-host rows (R109, R110, R113, R115, R119, R121, R123). -/
def decodeRx (t : Byte) (p : List Byte) : Except DecodeError Instr :=
  if t = tySample then
    if h : p.length = 91 ∧ p.head? = some rawSubtype then .ok (readRaw p h.1)
    else if h : p.length = 87 ∧ p.head? ≠ some rawSubtype then .ok (readQuat p h.1)
    else .error (.noSuchResponse t p.length)
  else if h : t = tyInfo ∧ p.length = 18 then .ok (readInfo p h.2)
  else if h : t = tySetid ∧ p.length = 2 then .ok (.setidRsp (memRead16 p 0 (by omega)))
  else if h : t = tyLabel ∧ p.length = 16 then .ok (.labelRsp ⟨p.toArray, by simpa using h.2⟩)
  else if h : t = tyFwver ∧ p.length = 3 then .ok (.fwverRsp (p[0]'(by omega)) (p[1]'(by omega)) (p[2]'(by omega)))
  else if h : t = tyCalib ∧ p.length = 1 then .ok (.calibStage (p[0]'(by omega)))
  else .error (.noSuchResponse t p.length)

/-- The byte-step rows: selected by `RX_STATE` and, in `HUNT`, by whether the byte is `0x24` (R58, R65). -/
def decodeRxByte (q : RxState) (b : Byte) : Instr :=
  match q with
  | .hunt => if b = startMarker then .rxSof else .rxDiscard b
  | .type => .rxType b
  | .len => .rxLen b
  | .payload => .rxPayload b
  | .csum => .rxCsum b
  | .endMark => .rxEnd b

/-- The `sdec` rows: selected by payload byte 0 (R58, R85). An empty payload has no byte 0 and falls to the negated row;
both rows raise `SampleLengthError(0)` on it (R86). -/
def decodeSdec (P : List Byte) : Instr :=
  if P.head? = some rawSubtype then .sdecRaw P else .sdecQuat P

/-- The decoder of a fetched packet: total, rejecting by name. -/
def decode : Packet → Except DecodeError Instr
  | .frame d F =>
    match splitFrame F with
    | .error e => .error e
    | .ok (t, p) => match d with
      | .tx => decodeTx t p
      | .rx => decodeRx t p
  | .rxByte q b => .ok (decodeRxByte q b)
  | .abort => .ok .abort
  | .encode t p => .ok (.encode t p)
  | .sdec P => .ok (decodeSdec P)

/-! ### The encoder -/

/-- The packet of an instruction: a frame kind's bytes in wire order (R40, R106 to R125), a byte-step's byte in its
`RX_STATE` (R65), an operation's operands. -/
def encode : Instr → Packet
  | .smodeQuat => .frame .tx (mkFrame tySample [0x01])
  | .smodeRaw => .frame .tx (mkFrame tySample [0x03])
  | .smodeOff => .frame .tx (mkFrame tySample [0x00])
  | .sampleRaw i c u t => .frame .rx (mkFrame tySample (rawPayload i c u t))
  | .sampleQuat s i c q t => .frame .rx (mkFrame tySample (quatPayload s i c q t))
  | .stop => .frame .tx (mkFrame tyStop [])
  | .infoReq => .frame .tx (mkFrame tyInfo [])
  | .infoRsp d r i a n g h r' => .frame .rx (mkFrame tyInfo (infoPayload d r i a n g h r'))
  | .setidReq i => .frame .tx (mkFrame tySetid (bytes16 i))
  | .setidRsp i => .frame .rx (mkFrame tySetid (bytes16 i))
  | .reboot => .frame .tx (mkFrame tyReboot [])
  | .labelGet => .frame .tx (mkFrame tyLabel [])
  | .labelSet l => .frame .tx (mkFrame tyLabel l.toList)
  | .labelRsp l => .frame .rx (mkFrame tyLabel l.toList)
  | .fwverReq => .frame .tx (mkFrame tyFwver [])
  | .fwverRsp a b c => .frame .rx (mkFrame tyFwver [a, b, c])
  | .calibStart => .frame .tx (mkFrame tyCalib [])
  | .calibStage s => .frame .rx (mkFrame tyCalib [s])
  | .poweroff => .frame .tx (mkFrame tyPoweroff [])
  | .vibro a b c d e r => .frame .tx (mkFrame tyVibro [a, b, c, d, e, r])
  | .encode t p => .encode t p
  | .rxDiscard b => .rxByte .hunt b
  | .rxSof => .rxByte .hunt startMarker
  | .rxType b => .rxByte .type b
  | .rxLen b => .rxByte .len b
  | .rxPayload b => .rxByte .payload b
  | .rxCsum b => .rxByte .csum b
  | .rxEnd b => .rxByte .endMark b
  | .abort => .abort
  | .sdecRaw P => .sdec P
  | .sdecQuat P => .sdec P

/-! ### The opcode table's words -/

/-- Completes the four bytes of R58's word `W` to a frame: the payload bytes past the first are zero, and the checksum
and end marker, which are no operand bits, are the ones R40 requires. With an empty payload byte 3 is the checksum
as given. -/
def completeFrame (b0 b1 b2 b3 : Byte) : List Byte :=
  if b2.toNat ≤ 2 then [b0, b1, b2, b3, endMarker]
  else
    let body := b0 :: b1 :: b2 :: b3 :: List.replicate (b2.toNat - 3) 0
    body ++ [sum8 body, endMarker]

/-- Lays a table word out as the hardware stores it. A 32-bit word is R58's `W`, its most significant byte first on the
wire; a word that is no request row is laid out as a response. An 8-bit word is the byte of an `rxstep` row in `HUNT`,
or payload byte 0 of an `sdec` row: a value that a row fixes positively belongs to that row (`0x24` to `RX.SOF`, `0x03`
to `SDEC.RAW`, whose other 90 payload bytes are zero), any other value to the first negated row, `RX.DISCARD`. -/
def layoutWord (nbits w : Nat) : Option Packet :=
  if nbits = 32 then
    let W := BitVec.ofNat 32 w
    let F := completeFrame (W.extractLsb' 24 8) (W.extractLsb' 16 8) (W.extractLsb' 8 8) (W.extractLsb' 0 8)
    match decode (.frame .tx F) with
    | .ok _ => some (.frame .tx F)
    | .error _ => some (.frame .rx F)
  else if nbits = 8 then
    let b := BitVec.ofNat 8 w
    if b = rawSubtype then some (.sdec (rawSubtype :: List.replicate 90 0))
    else some (.rxByte .hunt b)
  else none

/-- The instruction the decoder reads from a word of the opcode table. -/
def decodeTableWord (nbits w : Nat) : Option Instr :=
  match layoutWord nbits w with
  | none => none
  | some pk => match decode pk with
    | .ok i => some i
    | .error _ => none

end Sys2Proof
end

