-- ==== Sys2Proof/Machine/State.lean ====
section
/-! DEFINITION. The state of the block and of the two agents that drive it (R12), as plain data. The RX decoder owns the
`rx…` fields (R13 to R15), the host owns `expectedType`, its pending calls and its session record, the environment owns
the items of `rxStream`. -/

namespace Sys2Proof.Machine

/-- `RX_BUF[0..252]` (R15) as a list of (offset, byte) cells: offsets strictly rising, no cell equal to what an
unlisted offset reads as. -/
abbrev Memory := List Host.Cell

/-- `ERR_CAUSE` (R17): bit 0 `CSUM_BAD`, bit 1 `END_BAD`, bit 2 `LEN_BAD`. -/
abbrev ErrCause := BitVec 3

/-- The event of an RX step (R17), the block's only RX output. -/
inductive Event where
  | none
  | accept (type : Byte) (payload : List Byte)
  | pktErr (cause : ErrCause)
  | timeout
  deriving DecidableEq, Repr

/-- The six errors of R130 with the information each records. `connectionError` and `deviceError` are the host's. -/
inductive Err where
  /-- `ConnectionError` (R134); `notResponding` is its device-not-responding variant, for a response timeout. The
  diagnostic text that R130 records with it is not kept, since no rule gives its content (DESIGN CHOICE,
  notes/assumptions/36.md). -/
  | connectionError (notResponding : Bool)
  /-- `TimeoutError` (R133). -/
  | timeoutError
  /-- `PacketError` (R131, R132). -/
  | packetError (cause : ErrCause)
  /-- `DeviceError` (R135). -/
  | deviceError
  /-- `SampleLengthError(len(P))` (R136). -/
  | sampleLengthError (n : Nat)
  /-- `EncodeLengthError(n)` (R137). -/
  | encodeLengthError (n : Nat)
  deriving DecidableEq, Repr

/-- The fields of `Sample` that both variants have (R18), over a numeric type `α`. -/
structure SampleCommon (α : Type) where
  deviceId       : Half
  clock          : α
  pipJoints      : Vector α 5
  dipJoints      : Vector α 5
  palmArch       : α
  thumbCrossOver : α
  abductions     : Vector α 4
  pressures      : Vector α 5
  batteryCharge  : α
  deriving DecidableEq, Repr

/-- `IMUSample` (R18): degrees per second, g, microtesla. -/
structure ImuSample (α : Type) where
  angularVelocity : Vector α 3
  acceleration    : Vector α 3
  magneticField   : Vector α 3
  deriving DecidableEq, Repr

/-- A quaternion in the order x, y, z, w (R18). -/
structure Quaternion (α : Type) where
  x : α
  y : α
  z : α
  w : α
  deriving DecidableEq, Repr

/-- `Sample` (R18): a sum of two record types, never a record in which the unused fields hold zero. -/
inductive Sample (α : Type) where
  | raw (common : SampleCommon α) (wristImu handImu : ImuSample α)
  | quat (common : SampleCommon α) (wristQuat handQuat : Quaternion α)
  deriving DecidableEq, Repr

/-- The variant part of `SDEC`'s intermediates (R19): `I[0..17]` or `Qr[0..7]`; which of the two is `S_VARIANT`. -/
inductive SdecBody where
  | raw (I : Vector Half 18)
  | quat (Qr : Vector Long 8)
  deriving DecidableEq, Repr

/-- `SDEC`'s intermediate registers (R19). -/
structure SdecRegs where
  subtype  : Byte
  deviceId : Half
  clockMs  : Long
  body     : SdecBody
  tail     : Vector Half 24
  deriving DecidableEq, Repr

/-- What a host call gave back, in order (R143, R159). -/
inductive Result where
  /-- The frame `ENCODE` returned. -/
  | frame (F : List Byte)
  /-- `Ok(payload)` of a `DecodeNext`. -/
  | payload (p : List Byte)
  /-- The `Sample` of an `SDEC`, exact rationals (R101). -/
  | sample (x : Sample Rat)
  /-- The error an operation ended with (R130). -/
  | error (e : Err)
  deriving DecidableEq, Repr

/-- One item of `RX_STREAM` (R25, R80). -/
inductive RxItem where
  /-- One byte. -/
  | byte (b : Byte)
  /-- The transport's read timeout, in place of a byte (R77, R80). -/
  | abort
  /-- All bytes of one frame, none missing and no `ABORT` among them; a shorthand for its bytes. -/
  | frame (F : List Byte)
  deriving DecidableEq, Repr

/-- What the host does to the block (R143) and, with `sdecLast`, `calibLoop` and `settle`, what R57's sequences need. -/
inductive HostCall where
  /-- Transmit a request frame of the catalogue (R106 to R125). -/
  | send (F : List Byte)
  /-- `ENCODE(type, payload)` (R60). -/
  | encode (type : Byte) (payload : List Byte)
  /-- Start a `DecodeNext(E)` (R80). -/
  | decodeNext (expected : Byte)
  /-- `SDEC(P)` (R85). -/
  | sdec (P : List Byte)
  /-- `SDEC` of the payload the last `DecodeNext` returned (`NEXT_SAMPLE`, R57); nothing when the last result is no payload
  (DESIGN CHOICE, notes/assumptions/33.md). -/
  | sdecLast
  /-- The rest of a running calibration sequence (R123). -/
  | calibLoop
  /-- Write `EXPECTED_TYPE` (R143). -/
  | writeExpected (expected : Byte)
  /-- The settle delay (R161), which the block neither times nor sees (notes/assumptions/25.md). -/
  | settle
  /-- Close the session (R143, R159). -/
  | close
  /-- One entry of the host's surface begins (R57, R144); `connecting` when it is `CONNECT` (R157). -/
  | seqBegin (connecting : Bool)
  /-- That entry ends. -/
  | seqEnd
  deriving DecidableEq, Repr

/-- The session's streaming mode (R22 (a)). -/
inductive StreamMode where
  | off
  | quaternion
  | raw
  deriving DecidableEq, Repr

/-- The host's calibration sequence (R123): the stages yielded so far, and how it ended. -/
inductive Calib where
  /-- No `CALIB.START` was sent yet. -/
  | idle
  | running (progress : List Byte)
  /-- Stage 100. -/
  | succeeded (progress : List Byte)
  /-- Stage 255. -/
  | failed (progress : List Byte)
  /-- A `PacketError` or `TimeoutError` ended the sequence. -/
  | ended (progress : List Byte)
  deriving DecidableEq, Repr

/-- `DeviceIdentity` (R22 (b)): what the last acknowledging response said, `none` before any did. -/
structure Identity where
  deviceType : Option Byte
  deviceId   : Option Half
  label      : Option (Vector Byte 16)
  firmware   : Option (Byte × Byte × Byte)
  address    : Option Long
  netmask    : Option Long
  gateway    : Option Long
  dhcp       : Option Byte
  deriving DecidableEq, Repr

/-- An entry of the host's surface in progress (R57, R144): whether it is `CONNECT`, and how many results the host had when
it began. -/
structure HostSeq where
  connecting : Bool
  start      : Nat
  deriving DecidableEq, Repr

/-- What the host keeps of the frames it sends and receives (R22, R106 to R124), and which entry of its surface it is in.
No rule of the codec reads it. -/
structure Session where
  isOpen   : Bool
  mode     : StreamMode
  identity : Identity
  calib    : Calib
  seq      : Option HostSeq
  deriving DecidableEq, Repr

/-- The whole machine. -/
structure State where
  /-- `RX_STATE` (R13). -/
  rxState      : RxState
  /-- `RX_CNT` (R13), 8 bits. -/
  rxCnt        : Byte
  /-- `RX_TYPE` (R14). -/
  rxType       : Byte
  /-- `RX_LEN` (R14). -/
  rxLen        : Byte
  /-- `RX_SUM` (R14). -/
  rxSum        : Byte
  /-- `RX_CSUM` (R14). -/
  rxCsum       : Byte
  /-- `RX_BUF[0..252]` (R15). -/
  rxBuf        : Memory
  /-- `EXPECTED_TYPE` (R16). -/
  expectedType : Byte
  /-- The event output of the last RX step (R17). -/
  event        : Event
  /-- `RX_STREAM` from the next byte on, `RX_FIFO` merged with the bytes not yet arrived (R21, R25). -/
  rxStream     : List RxItem
  /-- `TX_STREAM` (R26), every byte handed to the transport since reset. -/
  txStream     : List Byte
  /-- The environment's decision for each blocking write to come, `true` where the transport's write timeout elapses (R63,
  R133); a write past the end of the list completes. -/
  writeTimeouts : List Bool
  /-- The model's own count of the writes that timed out: the argument of the free value `Config.timedOutWriteLands`. -/
  timedOutWrites : Nat
  /-- The intermediates of the last `SDEC` (R19), `none` before the first. -/
  sdecRegs     : Option SdecRegs
  /-- The `Sample` of the last `SDEC` (R18), exact rationals. -/
  sample       : Option (Sample Rat)
  /-- The same sample rendered by `NUM` (R101), when `NUM` renders. -/
  rendered     : Option (Sample (BitVec 64))
  /-- A `DecodeNext` is in progress (R12, R80). -/
  inCall       : Bool
  /-- The host's calls still to come, in order (R12, R37). -/
  hostCalls    : List HostCall
  /-- What the host's calls gave back, in order (R159). -/
  results      : List Result
  /-- The host's session record (R22). -/
  session      : Session
  /-- `JOINT_ORDER`, `NUM`, `VIBRO_RESERVED` (R6, R16). -/
  cfg          : Config
  deriving DecidableEq, Repr

/-- Why the machine stops. -/
inductive Fault where
  /-- Raised by the fetch while a `DecodeNext` is in progress and no item of `RX_STREAM` is left: the call "blocks until
  the environment supplies one" (R80). A stuck state, safe: the block takes no step either. -/
  | awaitingInput
  /-- Raised by the fetch when no `DecodeNext` is in progress and the host has no further call: no agent steps (R12).
  A stuck state, safe. -/
  | hostIdle
  /-- Raised by the fetch after the session was closed: "After close the block takes no step" (R159). Safe. -/
  | sessionClosed
  /-- Raised by `RX.PAYLOAD` and `RX.END` when `RX_CNT` addresses an entry outside `RX_BUF[0..252]` (R15, R38). No
  reachable state does it (R24, I6). Safe. -/
  | noSuchBufEntry (i : Nat)
  deriving DecidableEq, Repr

/-- Why an instruction is turned away. -/
inductive Refusal where
  /-- Raised by `exec` for an instruction without a meaning; none is left. Safe. -/
  | notModelled (mnemonic : String)
  /-- Raised by `step` when the host asks to send bytes that are no request frame of the catalogue. Safe. -/
  | undecodable (e : DecodeError)
  deriving DecidableEq, Repr

/-- The identity cache before any response (R22, R115): nothing is acknowledged. -/
def Identity.unknown : Identity :=
  { deviceType := none, deviceId := none, label := none, firmware := none, address := none, netmask := none,
    gateway := none, dhcp := none }

/-- The machine right after reset (R23, R155, R156): hunting, nothing received, nothing sent, no sample. The registers
R23 leaves unspecified hold zero (DESIGN CHOICE, notes/assumptions/1.md), and so does the model's own count of timed-out
writes (DESIGN CHOICE, notes/assumptions/13.md). -/
def State.reset : State :=
  { rxState := .hunt, rxCnt := 0, rxType := 0, rxLen := 0, rxSum := 0, rxCsum := 0, rxBuf := [], expectedType := 0,
    event := .none, rxStream := [], txStream := [], writeTimeouts := [], timedOutWrites := 0, sdecRegs := none,
    sample := none, rendered := none, inCall := false, hostCalls := [], results := [],
    session := { isOpen := true, mode := .off, identity := Identity.unknown, calib := .idle, seq := none },
    cfg := Config.initial }

end Sys2Proof.Machine
end

