-- ==== Sys2Proof/Machine/Flags.lean ====
section
/-! DEFINITION. The error cause flags (R17, R131) and the error codes (R130). -/

namespace Sys2Proof.Machine

/-- `CSUM_BAD` (R17), bit 0. -/
def csumBad : ErrCause := 0b001
/-- `END_BAD` (R17), bit 1. -/
def endBad : ErrCause := 0b010
/-- `LEN_BAD` (R17), bit 2. -/
def lenBad : ErrCause := 0b100

/-- The cause word of `RX.END` (R73): both trailer checks judged together (R74). -/
def endCause (rxCsum rxSum b : Byte) : ErrCause :=
  (if rxCsum ≠ rxSum then csumBad else 0) ||| (if b ≠ endMarker then endBad else 0)

/-- The numeric code of an error (R130, D15). -/
def Err.code : Err → Nat
  | .connectionError _ => 1
  | .timeoutError => 2
  | .packetError _ => 3
  | .deviceError => 4
  | .sampleLengthError _ => 5
  | .encodeLengthError _ => 6

end Sys2Proof.Machine
end

