-- ==== Sys2Proof/Machine/Numerics.lean ====
section
/-! DEFINITION. The scale factors of R49 (R89 to R92, R94 to R98, R100), exactly and as `NUM`'s default rendering (R101). -/

namespace Sys2Proof.Machine

/-- How each kind of raw integer becomes a value of type `α` (R49). -/
structure Numerics (α : Type) where
  /-- R89: `raw * 10 / 32768`. -/
  angularVelocity : Int → α
  /-- R90: `raw * 4 / 32768`. -/
  acceleration : Int → α
  /-- R91: `raw`. -/
  magneticField : Int → α
  /-- R92: `raw / 65536`. -/
  quaternion : Int → α
  /-- R94, R95, R97, R98, R100: `raw / 1000`. -/
  milli : Int → α
  /-- R96: `1 - raw / 999`. -/
  pressure : Int → α

/-- The normative values (R101): exact rationals. -/
def exactNumerics : Numerics Rat :=
  { angularVelocity := fun raw => (raw : Rat) * 10 / 32768
    acceleration := fun raw => (raw : Rat) * 4 / 32768
    magneticField := fun raw => (raw : Rat)
    quaternion := fun raw => (raw : Rat) / 65536
    milli := fun raw => (raw : Rat) / 1000
    pressure := fun raw => 1 - (raw : Rat) / 999 }

/-- The quotient of two naturals rounded to the nearest, ties to even. -/
def divRoundEven (a d : Nat) : Nat :=
  let q := a / d
  let r := a % d
  if 2 * r < d then q else if d < 2 * r then q + 1 else if q % 2 = 0 then q else q + 1

/-- The binary exponent `e` of `a / d`, `2^e ≤ a / d < 2^(e+1)`, for positive `a` and `d`. -/
def binExponent (a d : Nat) : Int :=
  let e : Int := (Nat.log2 a : Int) - (Nat.log2 d : Int)
  if 0 ≤ e then (if d * 2 ^ e.toNat ≤ a then e else e - 1)
  else (if d ≤ a * 2 ^ (-e).toNat then e else e - 1)

/-- The 53-bit significand of `a / d`, `a / d * 2^(52 - e)` rounded to nearest even, for exponent `e`. -/
def significand (a d : Nat) (e : Int) : Nat :=
  if e ≤ 52 then divRoundEven (a * 2 ^ (52 - e).toNat) d else divRoundEven a (d * 2 ^ (e - 52).toNat)

/-- The binary64 value nearest to a rational, ties to even, in the normal range (R101: no subnormals, no overflow). -/
def roundBinary64 (x : Rat) : Rat :=
  if x.num = 0 then 0
  else
    let a := x.num.natAbs
    let e := binExponent a x.den
    let m := significand a x.den e
    let v : Rat := if e ≤ 52 then (m : Rat) / ((2 ^ (52 - e).toNat : Nat) : Rat) else (m : Rat) * ((2 ^ (e - 52).toNat : Nat) : Rat)
    if x.num < 0 then -v else v

/-- The binary64 bit pattern of a rational that is a normal binary64 value or zero. -/
def bitsBinary64 (x : Rat) : BitVec 64 :=
  if x.num = 0 then 0
  else
    let a := x.num.natAbs
    let e := binExponent a x.den
    BitVec.ofNat 64 ((if x.num < 0 then 2 ^ 63 else 0) + (e + 1023).toNat * 2 ^ 52 + (significand a x.den e - 2 ^ 52))

/-- The default `NUM` (R101): one correctly rounded operation per arithmetic operation written, in the order written. -/
def binary64Numerics : Numerics (BitVec 64) :=
  { angularVelocity := fun raw => bitsBinary64 (roundBinary64 (roundBinary64 (raw * 10) / 32768))
    acceleration := fun raw => bitsBinary64 (roundBinary64 (roundBinary64 (raw * 4) / 32768))
    magneticField := fun raw => bitsBinary64 (raw : Rat)
    quaternion := fun raw => bitsBinary64 (roundBinary64 ((raw : Rat) / 65536))
    milli := fun raw => bitsBinary64 (roundBinary64 ((raw : Rat) / 1000))
    pressure := fun raw => bitsBinary64 (roundBinary64 (1 - roundBinary64 ((raw : Rat) / 999))) }

end Sys2Proof.Machine
end

