-- ==== Sys2Proof/Machine/Operands.lean ====
section
/-! DEFINITION. Operand forms: `SDEC`'s unpacking of a payload into its intermediates (R87, R88, R92, R93), the sample
built from them (R89 to R100), and the operands the host computes (label R118, vibro bytes R125). -/

namespace Sys2Proof.Machine

/-! ### SDEC -/

/-- Header, `I[0..17]` and `T[0..23]` of a 91-byte payload (R34, R87, R88, R93). -/
def unpackRaw (P : List Byte) (h : P.length = 91) : SdecRegs :=
  { subtype := memRead8 P 0 (by omega)
    deviceId := memRead16 P 1 (by omega)
    clockMs := memRead32 P 3 (by omega)
    body := .raw (Vector.ofFn fun i => memRead16 P (7 + 2 * i.val) (by omega))
    tail := Vector.ofFn fun j => memRead16 P (43 + 2 * j.val) (by omega) }

/-- Header, `Qr[0..7]` and `T[0..23]` of an 87-byte payload (R35, R87, R92, R93). -/
def unpackQuat (P : List Byte) (h : P.length = 87) : SdecRegs :=
  { subtype := memRead8 P 0 (by omega)
    deviceId := memRead16 P 1 (by omega)
    clockMs := memRead32 P 3 (by omega)
    body := .quat (Vector.ofFn fun i => memRead32 P (7 + 4 * i.val) (by omega))
    tail := Vector.ofFn fun j => memRead16 P (39 + 2 * j.val) (by omega) }

/-- An unsigned raw value as an integer (`zext`, R8). -/
def zext {n : Nat} (v : BitVec n) : Int := (v.toNat : Int)

/-- Element `j` of the tail scaled by `/1000` (R93). -/
def tailMilli {α : Type} (N : Numerics α) (T : Vector Half 24) (j : Fin 24) : α := N.milli (zext T[j])

/-- The joints `T[2f]` (`false`) or `T[2f + 1]` (`true`), `f` = 0..4 (R94). -/
def joints {α : Type} (N : Numerics α) (T : Vector Half 24) (odd : Bool) : Vector α 5 :=
  Vector.ofFn fun f => tailMilli N T ⟨2 * f.val + odd.toNat, by cases odd <;> simp <;> omega⟩

/-- The fields both variants have (R87, R94 to R98, R100). `T[11]` and `T[13]` are used by no field (R99). -/
def sampleCommon {α : Type} (N : Numerics α) (jo : JointOrder) (r : SdecRegs) : SampleCommon α :=
  { deviceId := r.deviceId
    clock := N.milli (zext r.clockMs)
    pipJoints := joints N r.tail (jo = .pipOdd)
    dipJoints := joints N r.tail (jo = .dipOdd)
    palmArch := tailMilli N r.tail 10
    thumbCrossOver := tailMilli N r.tail 12
    abductions := Vector.ofFn fun a => tailMilli N r.tail ⟨19 + a.val, by omega⟩
    pressures := Vector.ofFn fun f => N.pressure (zext (r.tail[14 + f.val]'(by omega)))
    batteryCharge := tailMilli N r.tail 23 }

/-- The nine raw values from index `base` on as an `IMUSample` (R89, R90, R91): base 0 is the wrist, 9 the hand (R88). -/
def imuSample {α : Type} (N : Numerics α) (I : Vector Half 18) (base : Nat) (h : base + 9 ≤ 18) : ImuSample α :=
  { angularVelocity := Vector.ofFn fun k => N.angularVelocity (sext16 (I[base + k.val]'(by omega)))
    acceleration := Vector.ofFn fun k => N.acceleration (sext16 (I[base + 3 + k.val]'(by omega)))
    magneticField := Vector.ofFn fun k => N.magneticField (sext16 (I[base + 6 + k.val]'(by omega))) }

/-- The four raw values from index `base` on as a quaternion x, y, z, w (R92): base 0 is the wrist, 4 the hand. -/
def quaternion {α : Type} (N : Numerics α) (Qr : Vector Long 8) (base : Nat) (h : base + 4 ≤ 8) : Quaternion α :=
  { x := N.quaternion (sext32 (Qr[base]'(by omega)))
    y := N.quaternion (sext32 (Qr[base + 1]'(by omega)))
    z := N.quaternion (sext32 (Qr[base + 2]'(by omega)))
    w := N.quaternion (sext32 (Qr[base + 3]'(by omega))) }

/-- The sample of a set of intermediates (R85, R88 to R100). -/
def buildSample {α : Type} (N : Numerics α) (jo : JointOrder) (r : SdecRegs) : Sample α :=
  match r.body with
  | .raw I => .raw (sampleCommon N jo r) (imuSample N I 0 (by omega)) (imuSample N I 9 (by omega))
  | .quat Qr => .quat (sampleCommon N jo r) (quaternion N Qr 0 (by omega)) (quaternion N Qr 4 (by omega))

/-! ### Operands the host computes -/

/-- The 16-byte null-padded field of a label (R118); a longer string is refused (N8). -/
def padLabel (s : List Byte) : Option (Vector Byte 16) :=
  if h : s.length ≤ 16 then some ⟨(s ++ List.replicate (16 - s.length) 0).toArray, by simp; omega⟩ else none

/-- `clamp(v, 0, 1)` (R125). -/
def clampUnit (v : Rat) : Rat := if v < 0 then 0 else if 1 < v then 1 else v

/-- `round` with the OPEN tie rule `VIBRO_ROUND_TIES` (R125, D29), for a non-negative argument. -/
def roundTies (x : Rat) : Nat :=
  let f := x.floor.toNat
  let frac := x - (f : Rat)
  if frac < 1 / 2 then f
  else if 1 / 2 < frac then f + 1
  else if Config.vibroTieUp f then f + 1 else f

/-- The byte of one vibro intensity (R125): `round(clamp(v, 0, 1) * 140 + 110)`. -/
def vibroByte (v : Rat) : Byte := BitVec.ofNat 8 (roundTies (clampUnit v * 140 + 110))

end Sys2Proof.Machine
end

