-- ==== Sys2Proof/Machine/Ops.lean ====
section
/-! DEFINITION. The named operations over `RX_BUF`, the registers, the streams and the host's record; raising an error
(R9, R131 to R137) as one operation; delivering a payload (R17, R73); appending a frame (R60). -/

namespace Sys2Proof.Machine

/-! ### RX_BUF (R15) -/

/-- The number of entries of `RX_BUF` (R15). -/
def bufSize : Nat := 253

/-- What an entry nothing has written reads as (DESIGN CHOICE, notes/assumptions/2.md); no rule reads one (R15, R24). -/
def unwrittenByte : Byte := 0

/-- `RX_BUF[i]`. -/
def Memory.read : Memory → Nat → Byte
  | [], _ => unwrittenByte
  | (a, v) :: m, i => if a = i then v else Memory.read m i

/-- `RX_BUF[i] <- v`, keeping the canonical form. -/
def Memory.write : Memory → Nat → Byte → Memory
  | [], i, v => if v = unwrittenByte then [] else [(i, v)]
  | (a, w) :: m, i, v =>
    if i < a then (if v = unwrittenByte then (a, w) :: m else (i, v) :: (a, w) :: m)
    else if i = a then (if v = unwrittenByte then m else (i, v) :: m)
    else (a, w) :: Memory.write m i v

/-- The canonical form from a lower bound on: offsets strictly rising and inside `RX_BUF`, no cell that an unlisted
offset would read as. -/
def Memory.wfFrom : Nat → Memory → Bool
  | _, [] => true
  | lo, (a, v) :: m => decide (lo ≤ a) && decide (a < bufSize) && decide (v ≠ unwrittenByte) && Memory.wfFrom (a + 1) m

/-- The canonical form of `RX_BUF`. -/
def Memory.wf (m : Memory) : Bool := Memory.wfFrom 0 m

/-- `RX_BUF[0 .. n)` as a byte sequence, a copy by value (R17, D28). -/
def Memory.readPrefix (m : Memory) (n : Nat) : List Byte := (List.range n).map (Memory.read m)

/-! ### Plain updates -/

/-- `emit` of an RX step (R9, R17). -/
def State.emit (ev : Event) (s : State) : State := { s with event := ev }

/-- `RX_STATE <- q`, the block's only control transfer (R9, R71). -/
def State.setRxState (q : RxState) (s : State) : State := { s with rxState := q }

/-- `EXPECTED_TYPE <- e` (R143). -/
def State.setExpected (e : Byte) (s : State) : State := { s with expectedType := e }

/-- `TX_STREAM <- TX_STREAM ++ F` (R60, R63): whole or not at all. -/
def State.appendTx (F : List Byte) (s : State) : State := { s with txStream := s.txStream ++ F }

/-- One more result for the host (R159). -/
def State.addResult (r : Result) (s : State) : State := { s with results := s.results ++ [r] }

/-- The `DecodeNext` in progress returns (R80). -/
def State.leaveCall (s : State) : State := { s with inCall := false }

/-- A new session record. -/
def State.setSession (ss : Session) (s : State) : State := { s with session := ss }

/-- The next items of `RX_STREAM` become `items`. -/
def State.setStream (items : List RxItem) (s : State) : State := { s with rxStream := items }

/-- The host's remaining calls become `calls`. -/
def State.setCalls (calls : List HostCall) (s : State) : State := { s with hostCalls := calls }

/-! ### The host's record of what it sends and receives -/

/-- A `PacketError` or `TimeoutError` of one of its `DecodeNext` calls ends a calibration sequence (R123). -/
def Calib.onError : Calib → Calib
  | .running ps => .ended ps
  | c => c

/-- The loop of R123 on a stage byte: 100 and 255 end it, every other value is progress (D25). -/
def Calib.onStage (stage : Byte) : Calib → Calib
  | .running ps => if stage = 100 then .succeeded ps else if stage = 255 then .failed ps else .running (ps ++ [stage])
  | c => c

/-- What the host does with a response it awaited (R113, R115, R119, R121, R123): it stores the fields. A sample is
handed to `SDEC` by a call of its own (R85, D19). A payload that has no catalogued shape leaves the record alone (N10). -/
def Session.onResponse (t : Byte) (p : List Byte) (ss : Session) : Session :=
  match decodeRx t p with
  | .ok (.infoRsp d _ i a n g h _) =>
    { ss with identity := { ss.identity with
        deviceType := some d, deviceId := some i, address := some a, netmask := some n, gateway := some g, dhcp := some h } }
  | .ok (.setidRsp i) => { ss with identity := { ss.identity with deviceId := some i } }
  | .ok (.labelRsp l) => { ss with identity := { ss.identity with label := some l } }
  | .ok (.fwverRsp a b c) => { ss with identity := { ss.identity with firmware := some (a, b, c) } }
  | .ok (.calibStage st) => { ss with calib := ss.calib.onStage st }
  | _ => ss

/-- The host's interpretation of a response (R135): stage 255 of a running calibration is a `DeviceError`. -/
def Session.responseErrors (t : Byte) (p : List Byte) (ss : Session) : List Result :=
  match decodeRx t p, ss.calib with
  | .ok (.calibStage st), .running _ => if st = 255 then [.error .deviceError] else []
  | _, _ => []

/-- A `TimeoutError` during connect is re-wrapped as `ConnectionError` (R133, R134, R157), with the device-not-responding
variant when a response timed out; whether a `PacketError` is wrapped too is not stated (N17) and it is left as it is
(notes/assumptions/21.md). -/
def Err.duringConnect (response : Bool) : Err → Err
  | .timeoutError => .connectionError response
  | e => e

/-- The host is in `CONNECT` (R157). -/
def Session.connecting (ss : Session) : Bool :=
  match ss.seq with
  | some q => q.connecting
  | none => false

/-- The error as the host's caller gets it (R133, R134). -/
def Session.surfaced (response : Bool) (e : Err) (ss : Session) : Err :=
  if ss.connecting then e.duringConnect response else e

/-- An entry of the host's surface is in progress and its last operation ended in an error: the error goes to the entry's
caller, without a retry (R140), so the entry's further calls are not made (DEDUCED, notes/assumptions/31.md). -/
def State.seqFailed (s : State) : Bool :=
  match s.session.seq, s.results.getLast? with
  | some q, some (.error _) => decide (q.start < s.results.length)
  | _, _ => false

/-! ### Raising an error -/

/-- The call in progress, if any, gives its error to the host (R132, R133, R140). -/
def State.failCall (e : Err) (s : State) : State :=
  if s.inCall then
    (s.addResult (.error (s.session.surfaced true e))).leaveCall.setSession { s.session with calib := s.session.calib.onError }
  else s

/-- `raise` (R9): the error event of the taxonomy of R130 and the state changes of its entry rule. A `PacketError` and a
`TimeoutError` return the decoder to `HUNT`, drop the frame in progress, end the `DecodeNext` (R132, R133, R77); the two
length errors change nothing and are handed to the host (R136, R137); the two host errors are handed to the host
(R134, R135). Nothing is saved and no mode changes; there is no return (R139). -/
def raise (e : Err) (s : State) : State :=
  match e with
  | .packetError c => ((s.setRxState .hunt).emit (.pktErr c)).failCall e
  | .timeoutError => ((s.setRxState .hunt).emit .timeout).failCall e
  | .sampleLengthError _ => s.addResult (.error e)
  | .encodeLengthError _ => s.addResult (.error e)
  | .deviceError => s.addResult (.error e)
  | .connectionError _ => s.addResult (.error e)

/-- `emit ACCEPT(t, p)` (R17, R73): the decoder is in `HUNT`; a `DecodeNext` in progress returns `Ok(p)` (R80) and the
host makes of it what the catalogue says. -/
def deliver (t : Byte) (p : List Byte) (s : State) : State :=
  let s1 := (s.setRxState .hunt).emit (.accept t p)
  if s.inCall then
    { s1 with
      inCall := false
      results := s.results ++ [.payload p] ++ s.session.responseErrors t p
      session := s.session.onResponse t p }
  else s1

/-! ### Transmitting -/

/-- The write to come times out (R63, R133). -/
def State.writeTimesOut (s : State) : Bool := s.writeTimeouts.headD false

/-- One blocking write is done: the environment's next decision is for the next one. -/
def State.nextWrite (s : State) : State := { s with writeTimeouts := s.writeTimeouts.tail }

/-- The write of `F` times out (R63, R133): the host sees `TimeoutError`, the block has no transmit state to clean up, and
whether `F` is on `TX_STREAM` is the free value (notes/assumptions/13.md). -/
def State.timeOutWrite (F : List Byte) (s : State) : State :=
  { s with
    txStream := if Config.timedOutWriteLands s.timedOutWrites then s.txStream ++ F else s.txStream
    writeTimeouts := s.writeTimeouts.tail
    timedOutWrites := s.timedOutWrites + 1
    results := s.results ++ [.error (s.session.surfaced false .timeoutError)] }

/-- `ENCODE(t, p)` (R60, R61, R63): one whole frame is appended to `TX_STREAM` and returned and the host notes what it has
sent, or the write times out, or `EncodeLengthError`. What the host notes of a request whose write timed out is not said:
nothing (DESIGN CHOICE, notes/assumptions/34.md; that the session stays open is R140). -/
def transmit (t : Byte) (p : List Byte) (noted : State → State) (s : State) : State :=
  if p.length ≤ maxPayload then
    if s.writeTimesOut then s.timeOutWrite (mkFrame t p)
    else noted ((s.nextWrite.appendTx (mkFrame t p)).addResult (.frame (mkFrame t p)))
  else raise (.encodeLengthError p.length) s

/-- The host notes the streaming mode it asked for (R106 to R108, R111). -/
def State.setMode (m : StreamMode) (s : State) : State := s.setSession { s.session with mode := m }

/-- The host notes that a calibration sequence runs (R122). -/
def State.startCalib (s : State) : State := s.setSession { s.session with calib := .running [] }

/-- An entry of the host's surface begins or ends (R57, R144). -/
def State.setSeq (q : Option HostSeq) (s : State) : State := s.setSession { s.session with seq := q }

/-- The session is closed (R124, R143, R159). -/
def State.closeSession (s : State) : State := s.setSession { s.session with isOpen := false }

/-- The start of `DecodeNext(E)` (R80). -/
def State.startCall (e : Byte) (s : State) : State := { s with expectedType := e, inCall := true }

/-! ### SDEC -/

/-- The sample of a set of intermediates becomes `SDEC`'s result (R85, R101). -/
def State.setSample (r : SdecRegs) (s : State) : State :=
  { s with
    sdecRegs := some r
    sample := some (buildSample exactNumerics s.cfg.jointOrder r)
    rendered := match s.cfg.num with
      | .exact => none
      | .binary64 => some (buildSample binary64Numerics s.cfg.jointOrder r)
    results := s.results ++ [.sample (buildSample exactNumerics s.cfg.jointOrder r)] }

end Sys2Proof.Machine
end

