-- ==== Sys2Proof/Machine/RxSteps.lean ====
section
/-! DEFINITION. The RX byte-steps (R66 to R73), `ABORT` (R77) and `RxStep` (R65). Which step applies to a byte is the
decoder's matter (`decodeRxByte`); each meaning is its rule's pseudocode, right-hand sides reading the values from before
the step (R9). -/

namespace Sys2Proof.Machine

open Host (Outcome)

/-- `RX.DISCARD` (R66): nothing changes. -/
def execRxDiscard (_b : Byte) (s : State) : Outcome State Fault Refusal :=
  .next (s.emit .none)

/-- `RX.SOF` (R67). -/
def execRxSof (s : State) : Outcome State Fault Refusal :=
  .next { s with rxSum := startMarker, rxState := .type, event := .none }

/-- `RX.TYPE` (R68). -/
def execRxType (b : Byte) (s : State) : Outcome State Fault Refusal :=
  .next { s with rxType := b, rxSum := s.rxSum + b, rxState := .len, event := .none }

/-- The register writes of `RX.LEN` that all its branches share (R69). -/
def State.latchLen (b : Byte) (s : State) : State :=
  { s with rxLen := b, rxSum := s.rxSum + b, rxCnt := 0 }

/-- `RX.LEN` (R69): 0 and 1 raise `PacketError(LEN_BAD)`, 2 is an empty payload. -/
def execRxLen (b : Byte) (s : State) : Outcome State Fault Refusal :=
  if b.toNat < 2 then .next (raise (.packetError lenBad) (s.latchLen b))
  else if b.toNat = 2 then .next (((s.latchLen b).setRxState .csum).emit .none)
  else .next (((s.latchLen b).setRxState .payload).emit .none)

/-- `RX.PAYLOAD` (R70). `RX_CNT + 1 = RX_LEN - 2` is written without the subtraction. -/
def execRxPayload (b : Byte) (s : State) : Outcome State Fault Refusal :=
  if s.rxCnt.toNat < bufSize then
    .next { s with
      rxBuf := Memory.write s.rxBuf s.rxCnt.toNat b
      rxSum := s.rxSum + b
      rxCnt := s.rxCnt + 1
      rxState := if s.rxCnt.toNat + 3 = s.rxLen.toNat then .csum else s.rxState
      event := .none }
  else .fault (.noSuchBufEntry s.rxCnt.toNat)

/-- `RX.CSUM` (R72): `RX_SUM` does not change. -/
def execRxCsum (b : Byte) (s : State) : Outcome State Fault Refusal :=
  .next { s with rxCsum := b, rxState := .endMark, event := .none }

/-- `RX.END` (R73, R74): validation first, then the type filter (R75). -/
def execRxEnd (b : Byte) (s : State) : Outcome State Fault Refusal :=
  if endCause s.rxCsum s.rxSum b ≠ 0 then .next (raise (.packetError (endCause s.rxCsum s.rxSum b)) s)
  else if s.rxType = s.expectedType then
    if s.rxCnt.toNat ≤ bufSize then .next (deliver s.rxType (s.rxBuf.readPrefix s.rxCnt.toNat) s)
    else .fault (.noSuchBufEntry bufSize)
  else .next ((s.setRxState .hunt).emit .none)

/-- `ABORT` (R77): any frame in progress is abandoned. -/
def execAbort (s : State) : Outcome State Fault Refusal :=
  .next (raise .timeoutError s)

/-- `RxStep` (R65) on the byte `b`, chosen by `RX_STATE` and, in `HUNT`, by whether `b = 0x24`. -/
def rxStep (b : Byte) (s : State) : Outcome State Fault Refusal :=
  match s.rxState with
  | .hunt => if b = startMarker then execRxSof s else execRxDiscard b s
  | .type => execRxType b s
  | .len => execRxLen b s
  | .payload => execRxPayload b s
  | .csum => execRxCsum b s
  | .endMark => execRxEnd b s

/-- A run of bytes reaches the decoder one after another. The first event other than `NONE` ends the `DecodeNext`, which
"consumes no byte beyond the frame that ended it" (R80): the bytes left stay at the head of `RX_STREAM`. -/
def receive : List Byte → State → Outcome State Fault Refusal
  | [], s => .next s
  | b :: bs, s => match rxStep b s with
    | .next s' => if s'.event = .none then receive bs s' else .next (s'.setStream (bs.map RxItem.byte ++ s'.rxStream))
    | .fault r => .fault r
    | .refused r => .refused r

end Sys2Proof.Machine
end

