-- ==== Sys2Proof/Machine/RxFrames.lean ====
section
/-! DEFINITION. The glove-to-host frame kinds (R109, R110, R113, R115, R119, R121, R123). Such a frame is received: its
bytes pass through the RX decoder, which validates it and delivers or skips it (R75, R81); a `DecodeNext` in progress
returns its payload and the host stores what the catalogue says (`deliver`). -/

namespace Sys2Proof.Machine

open Host (Outcome)

/-- `SAMPLE.RAW` (R109). The host passes the delivered payload to `SDEC` by a call of its own (R85). -/
def execSampleRaw (i : Half) (c : Long) (imu : Vector Half 18) (t : Vector Half 24) (s : State) : Outcome State Fault Refusal :=
  receive (mkFrame tySample (rawPayload i c imu t)) s

/-- `SAMPLE.QUAT` (R110). -/
def execSampleQuat (st : Byte) (i : Half) (c : Long) (q : Vector Long 8) (t : Vector Half 24) (s : State) : Outcome State Fault Refusal :=
  receive (mkFrame tySample (quatPayload st i c q t)) s

/-- `INFO.RSP` (R113): the host fills its identity record. -/
def execInfoRsp (d r : Byte) (i : Half) (a n g : Long) (h r' : Byte) (s : State) : Outcome State Fault Refusal :=
  receive (mkFrame tyInfo (infoPayload d r i a n g h r')) s

/-- `SETID.RSP` (R115): the echoed id is cached. -/
def execSetidRsp (i : Half) (s : State) : Outcome State Fault Refusal :=
  receive (mkFrame tySetid (bytes16 i)) s

/-- `LABEL.RSP` (R119): the label field is cached. -/
def execLabelRsp (l : Vector Byte 16) (s : State) : Outcome State Fault Refusal :=
  receive (mkFrame tyLabel l.toList) s

/-- `FWVER.RSP` (R121): the version is stored. -/
def execFwverRsp (a b c : Byte) (s : State) : Outcome State Fault Refusal :=
  receive (mkFrame tyFwver [a, b, c]) s

/-- `CALIB.STAGE` (R123): progress, success at 100, `DeviceError` at 255. -/
def execCalibStage (st : Byte) (s : State) : Outcome State Fault Refusal :=
  receive (mkFrame tyCalib [st]) s

end Sys2Proof.Machine
end

