-- ==== Sys2Proof/Machine/Sdec.lean ====
section
/-! DEFINITION. The sample payload decoder (R85 to R104): its two variants. Selection by payload byte 0 is the decoder's
matter (`decodeSdec`); the length check comes before any field is read (R86). -/

namespace Sys2Proof.Machine

open Host (Outcome)

/-- `SDEC.RAW` (R86 to R91, R93 to R101). -/
def execSdecRaw (P : List Byte) (s : State) : Outcome State Fault Refusal :=
  if h : P.length = 91 then .next (s.setSample (unpackRaw P h))
  else .next (raise (.sampleLengthError P.length) s)

/-- `SDEC.QUAT` (R86, R87, R92 to R101). -/
def execSdecQuat (P : List Byte) (s : State) : Outcome State Fault Refusal :=
  if h : P.length = 87 then .next (s.setSample (unpackQuat P h))
  else .next (raise (.sampleLengthError P.length) s)

end Sys2Proof.Machine
end

