-- ==== Sys2Proof/Machine/TxFrames.lean ====
section
/-! DEFINITION. The host-to-glove frame kinds (R106 to R108, R111, R112, R114, R116 to R118, R120, R122, R124, R125) and
`ENCODE` (R60): each appends its frame to `TX_STREAM`, or the host sees the write's `TimeoutError` (R63, R106). What the
host awaits afterwards is a call of its own (R57, R105). -/

namespace Sys2Proof.Machine

open Host (Outcome)

/-- `SMODE.QUAT` (R106): the session streams in quaternion mode from here on. -/
def execSmodeQuat (s : State) : Outcome State Fault Refusal :=
  .next (transmit tySample [0x01] (State.setMode .quaternion) s)

/-- `SMODE.RAW` (R107). -/
def execSmodeRaw (s : State) : Outcome State Fault Refusal :=
  .next (transmit tySample [0x03] (State.setMode .raw) s)

/-- `SMODE.OFF` (R108), the first half of stopping: the session is idle only after `STOP`. -/
def execSmodeOff (s : State) : Outcome State Fault Refusal :=
  .next (transmit tySample [0x00] id s)

/-- `STOP` (R111), the second half of stopping: the session is idle (R108). -/
def execStop (s : State) : Outcome State Fault Refusal :=
  .next (transmit tyStop [] (State.setMode .off) s)

/-- `INFO.REQ` (R112). -/
def execInfoReq (s : State) : Outcome State Fault Refusal :=
  .next (transmit tyInfo [] id s)

/-- `SETID.REQ id` (R114): the cached id changes only with the response (R115). -/
def execSetidReq (i : Half) (s : State) : Outcome State Fault Refusal :=
  .next (transmit tySetid (bytes16 i) id s)

/-- `REBOOT` (R116). The session's state after it is not described (R116, N16): the host's mode, open flag, identity and
calibration stay as they are (DESIGN CHOICE, notes/assumptions/30.md). -/
def execReboot (s : State) : Outcome State Fault Refusal :=
  .next (transmit tyReboot [] id s)

/-- `LABEL.GET` (R117). -/
def execLabelGet (s : State) : Outcome State Fault Refusal :=
  .next (transmit tyLabel [] id s)

/-- `LABEL.SET s` (R118). -/
def execLabelSet (l : Vector Byte 16) (s : State) : Outcome State Fault Refusal :=
  .next (transmit tyLabel l.toList id s)

/-- `FWVER.REQ` (R120). -/
def execFwverReq (s : State) : Outcome State Fault Refusal :=
  .next (transmit tyFwver [] id s)

/-- `CALIB.START` (R122): a calibration sequence runs from here on. -/
def execCalibStart (s : State) : Outcome State Fault Refusal :=
  .next (transmit tyCalib [] State.startCalib s)

/-- `POWEROFF` (R124): the session is closed after the frame. -/
def execPoweroff (s : State) : Outcome State Fault Refusal :=
  .next (transmit tyPoweroff [] State.closeSession s)

/-- `VIBRO` (R125): the six bytes as the host gave them. -/
def execVibro (b0 b1 b2 b3 b4 r : Byte) (s : State) : Outcome State Fault Refusal :=
  .next (transmit tyVibro [b0, b1, b2, b3, b4, r] id s)

/-- `ENCODE(type, payload)` (R60, R61). A catalogued request that the host transmits through `ENCODE` and not as the request
itself leaves no trace in the host's mode, calibration and open flag (DESIGN CHOICE, notes/assumptions/32.md). -/
def execEncode (t : Byte) (p : List Byte) (s : State) : Outcome State Fault Refusal :=
  .next (transmit t p id s)

end Sys2Proof.Machine
end

