-- ==== Sys2Proof/Machine/Dispatch.lean ====
section
/-! DEFINITION. Every instruction's meaning, one arm per row of spec/opcode_table.json. -/

namespace Sys2Proof.Machine

def exec (i : Instr) (s : State) : Host.Outcome State Fault Refusal :=
  match i with
  | .smodeQuat => Sys2Proof.Machine.execSmodeQuat s
  | .smodeRaw => Sys2Proof.Machine.execSmodeRaw s
  | .smodeOff => Sys2Proof.Machine.execSmodeOff s
  | .sampleRaw v c imu t => Sys2Proof.Machine.execSampleRaw v c imu t s
  | .sampleQuat st v c q t => Sys2Proof.Machine.execSampleQuat st v c q t s
  | .stop => Sys2Proof.Machine.execStop s
  | .infoReq => Sys2Proof.Machine.execInfoReq s
  | .infoRsp d r v a n g h q => Sys2Proof.Machine.execInfoRsp d r v a n g h q s
  | .setidReq v => Sys2Proof.Machine.execSetidReq v s
  | .setidRsp v => Sys2Proof.Machine.execSetidRsp v s
  | .reboot => Sys2Proof.Machine.execReboot s
  | .labelGet => Sys2Proof.Machine.execLabelGet s
  | .labelSet l => Sys2Proof.Machine.execLabelSet l s
  | .labelRsp l => Sys2Proof.Machine.execLabelRsp l s
  | .fwverReq => Sys2Proof.Machine.execFwverReq s
  | .fwverRsp a b c => Sys2Proof.Machine.execFwverRsp a b c s
  | .calibStart => Sys2Proof.Machine.execCalibStart s
  | .calibStage v => Sys2Proof.Machine.execCalibStage v s
  | .poweroff => Sys2Proof.Machine.execPoweroff s
  | .vibro a b c d e r => Sys2Proof.Machine.execVibro a b c d e r s
  | .encode t p => Sys2Proof.Machine.execEncode t p s
  | .rxDiscard b => Sys2Proof.Machine.execRxDiscard b s
  | .rxSof => Sys2Proof.Machine.execRxSof s
  | .rxType b => Sys2Proof.Machine.execRxType b s
  | .rxLen b => Sys2Proof.Machine.execRxLen b s
  | .rxPayload b => Sys2Proof.Machine.execRxPayload b s
  | .rxCsum b => Sys2Proof.Machine.execRxCsum b s
  | .rxEnd b => Sys2Proof.Machine.execRxEnd b s
  | .abort => Sys2Proof.Machine.execAbort s
  | .sdecRaw P => Sys2Proof.Machine.execSdecRaw P s
  | .sdecQuat P => Sys2Proof.Machine.execSdecQuat P s

end Sys2Proof.Machine
end

