-- ==== Sys2Proof/Machine/Fetch.lean ====
section
/-! DEFINITION. Which agent steps next (R12, R37, R80), what it fetches, and the host's own actions (R143, R57). -/

namespace Sys2Proof.Machine

/-- What the next step is: no agent can step; an action with no instruction, and the state after it; or a packet to
decode and run, in the state past it. -/
inductive Fetched where
  | stuck (f : Fault)
  | quiet (s : State)
  | packet (pk : Packet) (s : State)
  deriving DecidableEq, Repr

/-- The RX decoder takes the next item of `RX_STREAM` (R25, R65, R80). A whole frame that is a response row of the
catalogue is one packet; any other whole frame is its bytes. -/
def fetchRx (s : State) : Fetched :=
  match s.rxStream with
  | [] => .stuck .awaitingInput
  | .byte b :: rest => .packet (.rxByte s.rxState b) (s.setStream rest)
  | .abort :: rest => .packet .abort (s.setStream rest)
  | .frame F :: rest => match decode (.frame .rx F) with
    | .ok _ => .packet (.frame .rx F) (s.setStream rest)
    | .error _ => .quiet (s.setStream (F.map RxItem.byte ++ rest))

/-- The payload the last call returned, if it was a `DecodeNext` that delivered one. -/
def lastPayload (s : State) : Option (List Byte) :=
  match s.results.getLast? with
  | some (.payload P) => some P
  | _ => none

/-- The calls after the end of the entry in progress. -/
def afterSeq : List HostCall → List HostCall
  | [] => []
  | .seqEnd :: rest => rest
  | _ :: rest => afterSeq rest

/-- The host makes its next call (R143). `sdecLast` does nothing when the last result is no payload (DESIGN CHOICE,
notes/assumptions/33.md); `calibLoop` asks for the next stage while the calibration runs (R123). -/
def fetchCall (s : State) : Fetched :=
  match s.hostCalls with
  | [] => .stuck .hostIdle
  | .send F :: rest => .packet (.frame .tx F) (s.setCalls rest)
  | .encode t p :: rest => .packet (.encode t p) (s.setCalls rest)
  | .decodeNext e :: rest => .quiet ((s.setCalls rest).startCall e)
  | .sdec P :: rest => .packet (.sdec P) (s.setCalls rest)
  | .sdecLast :: rest => match lastPayload s with
    | some P => .packet (.sdec P) (s.setCalls rest)
    | none => .quiet (s.setCalls rest)
  | .calibLoop :: rest => match s.session.calib with
    | .running _ => .quiet (s.setCalls (.decodeNext tyCalib :: .calibLoop :: rest))
    | _ => .quiet (s.setCalls rest)
  | .writeExpected e :: rest => .quiet ((s.setCalls rest).setExpected e)
  | .settle :: rest => .quiet (s.setCalls rest)
  | .close :: rest => .quiet (s.setCalls rest).closeSession
  | .seqBegin c :: rest => .quiet ((s.setCalls rest).setSeq (some { connecting := c, start := s.results.length }))
  | .seqEnd :: rest => .quiet ((s.setCalls rest).setSeq none)

/-- The host goes on: past an entry of its surface that failed, otherwise with its next call. -/
def fetchHost (s : State) : Fetched :=
  if s.seqFailed then .quiet ((s.setCalls (afterSeq s.hostCalls)).setSeq none) else fetchCall s

/-- One agent steps at a time: the RX decoder while a `DecodeNext` is in progress, the host otherwise (R12, R37 O3);
nobody after close (R159). -/
def fetch (s : State) : Fetched :=
  if s.session.isOpen then (if s.inCall then fetchRx s else fetchHost s) else .stuck .sessionClosed

/-- Puts a packet where the next `fetch` takes it: into the host's calls or into `RX_STREAM`, with the session open, no entry
of the host's surface failed, and a `DecodeNext` in progress exactly for the decoder's packets. -/
def placePacket (pk : Packet) (s : State) : State :=
  let s1 := s.setSession { s.session with isOpen := true, seq := if s.seqFailed then none else s.session.seq }
  match pk with
  | .frame .tx F => { s1 with inCall := false, hostCalls := .send F :: s.hostCalls }
  | .frame .rx F => { s1 with inCall := true, rxStream := .frame F :: s.rxStream }
  | .rxByte q b => { s1 with inCall := true, rxState := q, rxStream := .byte b :: s.rxStream }
  | .abort => { s1 with inCall := true, rxStream := .abort :: s.rxStream }
  | .encode t p => { s1 with inCall := false, hostCalls := .encode t p :: s.hostCalls }
  | .sdec P => { s1 with inCall := false, hostCalls := .sdec P :: s.hostCalls }

end Sys2Proof.Machine
end

