-- ==== Sys2Proof/Machine/Step.lean ====
section
/-! DEFINITION. One step of the machine, and where the opcode table's words are stored for the next step. -/

namespace Sys2Proof.Machine

/-- One step: an action without an instruction, or the instruction the fetched packet decodes to. -/
def step (s : State) : Host.Outcome State Fault Refusal :=
  match fetch s with
  | .stuck f => .fault f
  | .quiet s' => .next s'
  | .packet pk s' => match decode pk with
    | .ok i => exec i s'
    | .error e => .refused (.undecodable e)

/-- `s` with the instruction of a word of the opcode table as the next one to run (`layoutWord`, `placePacket`). -/
def State.withFetchWord (s : State) (nbits w : Nat) : State :=
  match layoutWord nbits w with
  | some pk => placePacket pk s
  | none => s

end Sys2Proof.Machine
end

