-- ==== Sys2Proof/Machine/Call.lean ====
section
/-! DEFINITION. `DecodeNext` (R80) as one operation over the items of `RX_STREAM`, the call-level layer that must agree
with the byte steps. -/

namespace Sys2Proof.Machine

open Host (Outcome)

/-- The loop of R80: items are taken from the head until an event other than `NONE`; with no item left the call blocks. -/
def decodeLoop : List RxItem → State → Outcome State Fault Refusal
  | [], _ => .fault .awaitingInput
  | .abort :: rest, s => execAbort (s.setStream rest)
  | .byte b :: rest, s => match rxStep b (s.setStream rest) with
    | .next s' => if s'.event = .none then decodeLoop rest s' else .next s'
    | .fault r => .fault r
    | .refused r => .refused r
  | .frame F :: rest, s =>
    if F = [] then decodeLoop rest s
    else match receive F (s.setStream rest) with
      | .next s' => if s'.event = .none then decodeLoop rest s' else .next s'
      | .fault r => .fault r
      | .refused r => .refused r

/-- `DecodeNext(E)` (R80). -/
def decodeNext (E : Byte) (s : State) : Outcome State Fault Refusal :=
  decodeLoop s.rxStream (s.startCall E)

end Sys2Proof.Machine
end

