-- ==== Sys2Proof/Machine/HostSeq.lean ====
section
/-! DEFINITION. The host sequences of R57 and R144 as lists of host calls. They are the host's, not the block's: a host
program is any list of calls, and these are the ones the spec names. A sequence of several operations is one entry of the
host's surface: the first error ends it and goes to its caller, without a retry (R140; DEDUCED, notes/assumptions/31.md),
and the host goes on with what follows the entry in its list. -/

namespace Sys2Proof.Machine

/-- Calls as one entry of the host's surface; `connecting` for `CONNECT`, whose timeouts are re-wrapped (R133, R134). -/
def entry (connecting : Bool) (cs : List HostCall) : List HostCall := .seqBegin connecting :: cs ++ [.seqEnd]

/-- `EXEC t, p` (R57): one frame is sent, then a `DecodeNext` for the same type, which is not started when the `ENCODE`
ended in an error (notes/assumptions/31.md). -/
def hostExec (t : Byte) (p : List Byte) : List HostCall := entry false [.encode t p, .decodeNext t]

/-- `START_SAMPLING raw|quat` (R57, R106, R107). -/
def startSampling (raw : Bool) : List HostCall := entry false [.send (mkFrame tySample [if raw then 0x03 else 0x01])]

/-- The calls of `STOP_SAMPLING` (R57, R161): both commands are followed by the settle delay. -/
def stopCalls : List HostCall := [.send (mkFrame tySample [0x00]), .settle, .send (mkFrame tyStop []), .settle]

/-- `STOP_SAMPLING` (R57). -/
def stopSampling : List HostCall := entry false stopCalls

/-- `NEXT_SAMPLE` (R57). -/
def nextSample : List HostCall := entry false [.decodeNext tySample, .sdecLast]

/-- `CALIBRATE` (R57, R123). -/
def calibrate : List HostCall := entry false [.send (mkFrame tyCalib []), .calibLoop]

/-- `CONNECT` (R57, R157) after the transport was opened and the block reset; whether "twice" means two stops or the two
commands of one is not resolvable (N11), so it is an argument. The first error ends it; a timeout is a `ConnectionError`
(R134), a `PacketError` stays one (N17, notes/assumptions/21.md). -/
def connect (twoStops : Bool) : List HostCall :=
  entry true ((if twoStops then stopCalls ++ stopCalls else stopCalls) ++
    [.send (mkFrame tyInfo []), .decodeNext tyInfo, .send (mkFrame tyLabel []), .decodeNext tyLabel,
      .send (mkFrame tyFwver []), .decodeNext tyFwver])

/-- `SET_DEVICE_ID v` (R57, R114). -/
def setDeviceId (v : Half) : List HostCall := entry false [.send (mkFrame tySetid (bytes16 v)), .decodeNext tySetid]

/-- `SET_LABEL s` (R57, R118); a string of more than 16 bytes is refused. -/
def setLabel (s : List Byte) : Option (List HostCall) :=
  match padLabel s with
  | some l => some (entry false [.send (mkFrame tyLabel l.toList), .decodeNext tyLabel])
  | none => none

/-- `SET_VIBRO levels` (R57, R125), with `VIBRO_RESERVED` as the sixth byte (R54). -/
def setVibro (cfg : Config) (levels : Vector Rat 5) : List HostCall :=
  entry false [.send (mkFrame tyVibro (levels.toList.map vibroByte ++ [cfg.vibroReserved]))]

/-- `REBOOT` (R57, R116). -/
def rebootGlove : List HostCall := entry false [.send (mkFrame tyReboot [])]

/-- `TURN_OFF` (R57, R124): the frame's own meaning closes the session. -/
def turnOff : List HostCall := entry false [.send (mkFrame tyPoweroff [])]

/-- `disconnect()` (R144). -/
def disconnect : List HostCall := [.close]

end Sys2Proof.Machine
end

