-- ==== Sys2Proof/Safety.lean ====
section
/-! DEFINITION. What counts as a safe run: the invariants of R24, whole frames on `TX_STREAM` (R63), and the relations
the statements speak of. -/

namespace Sys2Proof.Machine

/-- The payload bytes of the frame in progress, `RX_BUF[0 .. RX_CNT)`. -/
def State.payloadSoFar (s : State) : List Byte := s.rxBuf.readPrefix s.rxCnt.toNat

/-- The bytes of the frame in progress that the checksum covers and that were consumed so far (R24, I4). -/
def State.covered (s : State) : List Byte :=
  match s.rxState with
  | .hunt => []
  | .type => [startMarker]
  | .len => [startMarker, s.rxType]
  | .payload => startMarker :: s.rxType :: s.rxLen :: s.payloadSoFar
  | .csum => startMarker :: s.rxType :: s.rxLen :: s.payloadSoFar
  | .endMark => startMarker :: s.rxType :: s.rxLen :: s.payloadSoFar

/-- The invariants of R24 that speak of one state, the canonical form of `RX_BUF`, and R80's remark that outside a
`DecodeNext` the decoder hunts. -/
structure Inv (s : State) : Prop where
  bufCanonical : s.rxBuf.wf = true
  /-- I1 -/
  payloadCount : s.rxState = .payload → 3 ≤ s.rxLen.toNat ∧ s.rxCnt.toNat + 2 < s.rxLen.toNat
  /-- I2 -/
  trailerCount : s.rxState = .csum ∨ s.rxState = .endMark → 2 ≤ s.rxLen.toNat ∧ s.rxCnt.toNat + 2 = s.rxLen.toNat
  /-- I4 -/
  runningSum : s.rxState ≠ .hunt → s.rxSum = sum8 s.covered
  /-- I6 -/
  countBound : s.rxCnt.toNat ≤ 253
  /-- I7 -/
  eventInHunt : s.event ≠ .none → s.rxState = .hunt
  /-- R80 -/
  huntOutsideCall : s.inCall = false → s.rxState = .hunt

/-- `TX_STREAM` is a sequence of whole frames (R37 O2, R63). -/
def TxWhole (s : State) : Prop :=
  ∃ frames : List (Byte × List Byte), (∀ f ∈ frames, f.2.length ≤ 253) ∧
    s.txStream = frames.flatMap (fun f => mkFrame f.1 f.2)

/-- Everything but the decoder's own registers, its event and the call's bookkeeping is as before: what a byte of
`RX_STREAM` cannot change (R84, R104, R132). -/
def SameOutsideRx (s t : State) : Prop :=
  t.expectedType = s.expectedType ∧ t.txStream = s.txStream ∧ t.sdecRegs = s.sdecRegs ∧ t.sample = s.sample ∧
    t.rendered = s.rendered ∧ t.hostCalls = s.hostCalls ∧ t.cfg = s.cfg ∧ t.writeTimeouts = s.writeTimeouts ∧
    t.timedOutWrites = s.timedOutWrites

/-- The decoder's registers, its buffer, its event and both streams are as before: what `SDEC` cannot change (R104). -/
def SameRxTx (s t : State) : Prop :=
  t.rxState = s.rxState ∧ t.rxCnt = s.rxCnt ∧ t.rxType = s.rxType ∧ t.rxLen = s.rxLen ∧ t.rxSum = s.rxSum ∧
    t.rxCsum = s.rxCsum ∧ t.rxBuf = s.rxBuf ∧ t.expectedType = s.expectedType ∧ t.event = s.event ∧
    t.rxStream = s.rxStream ∧ t.txStream = s.txStream ∧ t.writeTimeouts = s.writeTimeouts ∧ t.timedOutWrites = s.timedOutWrites

/-- Two states that agree on everything a rule may read: a header register, the checksum register and a buffer entry
count only once the step that writes them has run (R14, R15, R23, R24), and `EXPECTED_TYPE` only in a `DecodeNext`, which
writes it at its start (R80). -/
def SameLive (s t : State) : Prop :=
  t.rxState = s.rxState ∧ (s.rxState ≠ .hunt → t.rxSum = s.rxSum) ∧
    (s.rxState ≠ .hunt → s.rxState ≠ .type → t.rxType = s.rxType) ∧
    (s.rxState = .payload ∨ s.rxState = .csum ∨ s.rxState = .endMark →
      t.rxLen = s.rxLen ∧ t.rxCnt = s.rxCnt ∧ t.payloadSoFar = s.payloadSoFar) ∧
    (s.rxState = .endMark → t.rxCsum = s.rxCsum) ∧
    (s.inCall = true → t.expectedType = s.expectedType) ∧ t.event = s.event ∧ t.rxStream = s.rxStream ∧
    t.txStream = s.txStream ∧ t.writeTimeouts = s.writeTimeouts ∧ t.timedOutWrites = s.timedOutWrites ∧
    t.sdecRegs = s.sdecRegs ∧ t.sample = s.sample ∧ t.rendered = s.rendered ∧ t.inCall = s.inCall ∧
    t.hostCalls = s.hostCalls ∧ t.results = s.results ∧ t.session = s.session ∧ t.cfg = s.cfg

end Sys2Proof.Machine
end

