-- ==== Sys2Proof/Certificates/Slice0/Obligations.lean ====
section
/-! DEFINITION. The statements for the provers. Each docstring names the rule it formalises; a statement that rests on a
choice of the model names the log entry. -/

open Sys2Proof Sys2Proof.Machine

namespace Sys2Proof.Claims

/-- `k` steps of the machine. -/
def run (k : Nat) (s : State) : Host.Outcome State Fault Refusal := Sys2Proof.core.run k s

/-- A byte sequence as items of `RX_STREAM`. -/
def bytesOf (F : List Byte) : List RxItem := F.map RxItem.byte

/-- A `DecodeNext` is in progress in an open session: the RX decoder steps next (R12). -/
def Receiving (s : State) : Prop := s.session.isOpen = true ∧ s.inCall = true

/-- The host makes its next call (R12, R37): no `DecodeNext` is in progress and no entry of its surface has just failed
(notes/assumptions/31.md). -/
def HostTurn (s : State) : Prop := s.session.isOpen = true ∧ s.inCall = false ∧ s.seqFailed = false

/-- The environment lets the next blocking write complete (R63, R133; the list of its decisions is the model's form,
notes/assumptions/13.md). -/
def WriteCompletes (s : State) : Prop := s.writeTimeouts.headD false = false

/-- `f` applied to a next state. -/
def mapNext (f : State → State) : Host.Outcome State Fault Refusal → Host.Outcome State Fault Refusal
  | .next s => .next (f s)
  | .fault r => .fault r
  | .refused r => .refused r

/-- The state after an error that ends a `DecodeNext` (R132, R133, R77): `HUNT`, the event, and, if a call was in progress,
its result (a timeout in `CONNECT` is a `ConnectionError`, R134) and the end of a running calibration, whatever type the
call expected (the model's choice, DEDUCED from R123, notes/assumptions/21.md). Nothing else changes. -/
def afterError (s : State) (ev : Event) (e : Err) : State :=
  { s with
    rxState := .hunt
    event := ev
    inCall := false
    results := if s.inCall then
        s.results ++ [.error (if s.session.connecting = true ∧ e = .timeoutError then .connectionError true else e)]
      else s.results
    session := if s.inCall then { s.session with calib := s.session.calib.onError } else s.session }

/-- The state after `ACCEPT(t, p)` (R73): `HUNT`, the event, and, if a call was in progress, its result and the host's
record of the response; nothing else changes. -/
def afterAccept (s : State) (t : Byte) (p : List Byte) : State :=
  { s with
    rxState := .hunt
    event := .accept t p
    inCall := false
    results := if s.inCall then s.results ++ [.payload p] ++ s.session.responseErrors t p else s.results
    session := if s.inCall then s.session.onResponse t p else s.session }

/-- `be16(P, o)` as R8 writes it. -/
def u16 (P : List Byte) (o : Nat) : Nat := (P.getD o 0).toNat * 256 + (P.getD (o + 1) 0).toNat

/-- `be32(P, o)` as R8 writes it. -/
def u32 (P : List Byte) (o : Nat) : Nat :=
  (P.getD o 0).toNat * 16777216 + (P.getD (o + 1) 0).toNat * 65536 + (P.getD (o + 2) 0).toNat * 256 + (P.getD (o + 3) 0).toNat

/-- `sext_16(be16(P, o))` as R8 writes it. -/
def s16 (P : List Byte) (o : Nat) : Int := if u16 P o < 32768 then (u16 P o : Int) else (u16 P o : Int) - 65536

/-- `sext_32(be32(P, o))` as R8 writes it. -/
def s32 (P : List Byte) (o : Nat) : Int :=
  if u32 P o < 2147483648 then (u32 P o : Int) else (u32 P o : Int) - 4294967296

/-- Tail value `j` as a rational, for a tail that begins at offset `base` (R93). -/
def tail (P : List Byte) (base j : Nat) : Rat := (u16 P (base + 2 * j) : Rat)

/-- The header and tail fields of a sample (R87, R94 to R98, R100), tail at offset `base`, as formulas over the bytes. -/
def HeaderAndTail (P : List Byte) (base : Nat) (jo : JointOrder) (c : SampleCommon Rat) : Prop :=
  c.deviceId.toNat = u16 P 1 ∧ c.clock = (u32 P 3 : Rat) / 1000 ∧
    (∀ f : Fin 5, (jo = .dipOdd → c.pipJoints[f] = tail P base (2 * f.val) / 1000 ∧ c.dipJoints[f] = tail P base (2 * f.val + 1) / 1000) ∧
      (jo = .pipOdd → c.pipJoints[f] = tail P base (2 * f.val + 1) / 1000 ∧ c.dipJoints[f] = tail P base (2 * f.val) / 1000)) ∧
    c.palmArch = tail P base 10 / 1000 ∧ c.thumbCrossOver = tail P base 12 / 1000 ∧
    (∀ f : Fin 5, c.pressures[f] = 1 - tail P base (14 + f.val) / 999) ∧
    (∀ a : Fin 4, c.abductions[a] = tail P base (19 + a.val) / 1000) ∧ c.batteryCharge = tail P base 23 / 1000

/-- What an `SDEC` leaves as it was (R104): the decoder, both streams, the call, the host's calls and record, the
configuration. -/
def SdecFrame (s t : State) : Prop :=
  SameRxTx s t ∧ t.inCall = s.inCall ∧ t.hostCalls = s.hostCalls ∧ t.session = s.session ∧ t.cfg = s.cfg

/-- What the header registers and `RX_BUF` hold after the frame of type `ty` and payload `p` (R14, R15): the entries past
the payload read as before. -/
def FrameHeld (s t : State) (ty : Byte) (p : List Byte) : Prop :=
  t.rxType = ty ∧ t.rxLen.toNat = p.length + 2 ∧ t.rxCnt.toNat = p.length ∧ t.rxSum = sum8 (frameBody ty p) ∧
    t.rxBuf.wf = true ∧ (∀ i b, p[i]? = some b → t.rxBuf.read i = b) ∧ ∀ i, p.length ≤ i → t.rxBuf.read i = s.rxBuf.read i

/-- A frame on which validation failed with the causes `c` was consumed by the next `n` steps of a `DecodeNext` and reported
once: the decoder hunts at `rest`, the call returned `PacketError`, and a running calibration ended
(notes/assumptions/21.md). The header registers and `RX_BUF` hold the frame as received, of type `ty` and payload `p`. -/
def Reported (s : State) (n : Nat) (c : ErrCause) (ty : Byte) (p : List Byte) (rest : List RxItem) : Prop :=
  ∃ t : State, run n s = .next t ∧ t.event = .pktErr c ∧ t.rxState = .hunt ∧ t.inCall = false ∧ t.rxStream = rest ∧
    t.results = s.results ++ [.error (.packetError c)] ∧ t.session = { s.session with calib := s.session.calib.onError } ∧
    SameOutsideRx s t ∧ FrameHeld s t ty p

/-- The rendering of one scaled value by one rounding (R101). -/
def once (x : Rat) : BitVec 64 := bitsBinary64 (roundBinary64 x)

/-- The header and tail fields of a sample rendered by binary64 (R101), tail at offset `base`: one rounding each, two for a
pressure. -/
def HeaderAndTailRendered (P : List Byte) (base : Nat) (jo : JointOrder) (c : SampleCommon (BitVec 64)) : Prop :=
  c.deviceId.toNat = u16 P 1 ∧ c.clock = once ((u32 P 3 : Rat) / 1000) ∧
    (∀ f : Fin 5, (jo = .dipOdd → c.pipJoints[f] = once (tail P base (2 * f.val) / 1000) ∧
        c.dipJoints[f] = once (tail P base (2 * f.val + 1) / 1000)) ∧
      (jo = .pipOdd → c.pipJoints[f] = once (tail P base (2 * f.val + 1) / 1000) ∧
        c.dipJoints[f] = once (tail P base (2 * f.val) / 1000))) ∧
    c.palmArch = once (tail P base 10 / 1000) ∧ c.thumbCrossOver = once (tail P base 12 / 1000) ∧
    (∀ f : Fin 5, c.pressures[f] = once (1 - roundBinary64 (tail P base (14 + f.val) / 999))) ∧
    (∀ a : Fin 4, c.abductions[a] = once (tail P base (19 + a.val) / 1000)) ∧ c.batteryCharge = once (tail P base 23 / 1000)

/-- A finite binary64 value: 53 bits of significand and the exponents of IEEE 754 binary64 (R101). -/
def IsBinary64 (y : Rat) : Prop :=
  ∃ m e : Int, |m| < 2 ^ 53 ∧ -1074 ≤ e ∧ e ≤ 971 ∧ y = (m : Rat) * (2 : Rat) ^ e

/-- `r` is `x` correctly rounded to a normal binary64 value (R101): within half a unit in the last place of `x`, no binary64
value nearer, the even one at a tie; 0 is its own rounding. -/
def CorrectlyRounded (x r : Rat) : Prop :=
  x = 0 ∧ r = 0 ∨
  ∃ m e : Int, 2 ^ 52 ≤ |m| ∧ |m| < 2 ^ 53 ∧ -1074 ≤ e ∧ e ≤ 971 ∧ r = (m : Rat) * (2 : Rat) ^ e ∧
    |x - r| ≤ (2 : Rat) ^ e / 2 ∧ (∀ y, IsBinary64 y → |x - r| ≤ |x - y|) ∧
    ((∃ y, IsBinary64 y ∧ y ≠ r ∧ |x - y| = |x - r|) → m % 2 = 0)

/-- A response frame of type `ty` and payload `p` was delivered to the `DecodeNext` in progress, and nothing the decoder
and the call do not own has changed but the host's record. -/
def Delivered (s t : State) (ty : Byte) (p : List Byte) : Prop :=
  t.rxState = .hunt ∧ t.event = .accept ty p ∧ t.inCall = false ∧ t.rxStream = s.rxStream ∧ SameOutsideRx s t ∧
    FrameHeld s t ty p ∧ t.rxCsum = t.rxSum

/-- The decoder is in `HUNT` in a reachable state and a `DecodeNext(e)` is in progress. -/
def Awaiting (s : State) (e : Byte) : Prop := Inv s ∧ Receiving s ∧ s.rxState = .hunt ∧ s.expectedType = e

end Sys2Proof.Claims

open Sys2Proof.Claims

/-! ### Encoding -/

/-- R58, R106 to R125: no bit of an instruction's encoding is dropped. -/
def Obligations.DecodeEncodeRoundTrip : Prop :=
  ∀ i : Instr, i.wellFormed = true → decode (encode i) = .ok i

/-- R58: a packet has at most one meaning, and the decoder never invents bytes. -/
def Obligations.EncodeDecodeRoundTrip : Prop :=
  ∀ (pk : Packet) (i : Instr), decode pk = .ok i → encode i = pk ∧ i.wellFormed = true

/-- Words written out from R106, R113, R114, R121, R123, R125, R66 and R67 decode to their instructions. -/
def Obligations.LiteralWordsDecode : Prop :=
  decode (.frame .tx [0x24, 0x0A, 0x03, 0x01, 0x32, 0x23]) = .ok .smodeQuat ∧
  decode (.frame .tx [0x24, 0x0D, 0x04, 0x00, 0x2A, 0x5F, 0x23]) = .ok (.setidReq 42) ∧
  decode (.frame .rx [0x24, 0x0D, 0x04, 0x12, 0x34, 0x7B, 0x23]) = .ok (.setidRsp 0x1234) ∧
  decode (.frame .rx [0x24, 0x0C, 0x14, 0x01, 0x00, 0x00, 0x2A, 0xC0, 0xA8, 0x01, 0x0A, 0xFF, 0xFF, 0xFF, 0x00, 0xC0, 0xA8, 0x01,
    0x01, 0x01, 0x00, 0x4A, 0x23]) = .ok (.infoRsp 1 0 42 0xC0A8010A 0xFFFFFF00 0xC0A80101 1 0) ∧
  decode (.frame .rx [0x24, 0x13, 0x05, 0x01, 0x02, 0x03, 0x42, 0x23]) = .ok (.fwverRsp 1 2 3) ∧
  decode (.frame .rx [0x24, 0x31, 0x03, 0x64, 0xBC, 0x23]) = .ok (.calibStage 100) ∧
  decode (.frame .tx [0x24, 0x60, 0x08, 0x6E, 0xB4, 0xFA, 0x6E, 0xFA, 0x00, 0x10, 0x23]) =
    .ok (.vibro 0x6E 0xB4 0xFA 0x6E 0xFA 0x00) ∧
  decode (.rxByte .hunt 0x24) = .ok .rxSof ∧ decode (.rxByte .hunt 0x23) = .ok (.rxDiscard 0x23) ∧
  decode (.rxByte .payload 0x24) = .ok (.rxPayload 0x24)

/-- R59, R62 (P4, P5): well-formed frames are exactly the encoder's outputs, each of one type and payload. -/
def Obligations.WellFormedFramesAreEncoderOutputs : Prop :=
  (∀ F : List Byte, WellFormedFrame F ↔ ∃ (t : Byte) (p : List Byte), p.length ≤ 253 ∧ mkFrame t p = F) ∧
  (∀ (t t' : Byte) (p p' : List Byte), p.length ≤ 253 → p'.length ≤ 253 → mkFrame t p = mkFrame t' p' → t = t' ∧ p = p')

/-- R40: the frame's layout, offset by offset. -/
def Obligations.FrameLayout : Prop :=
  ∀ (t : Byte) (p : List Byte), p.length ≤ 253 →
    (mkFrame t p).length = p.length + 5 ∧ (mkFrame t p)[0]? = some 0x24 ∧ (mkFrame t p)[1]? = some t ∧
    (∃ l : Byte, (mkFrame t p)[2]? = some l ∧ l.toNat = p.length + 2) ∧ ((mkFrame t p).drop 3).take p.length = p ∧
    (mkFrame t p)[p.length + 3]? = some (sum8 ((mkFrame t p).take (p.length + 3))) ∧
    (mkFrame t p)[p.length + 4]? = some 0x23

/-- R8, R44: `sum8` is the sum modulo 256; changing one covered byte always changes it, swapping two neighbours never. -/
def Obligations.ChecksumSumsAndDetectsOneByte : Prop :=
  (∀ s : List Byte, (sum8 s).toNat = (s.map BitVec.toNat).sum % 256) ∧
  (∀ (a c : List Byte) (b b' : Byte), b ≠ b' → sum8 (a ++ b :: c) ≠ sum8 (a ++ b' :: c)) ∧
  (∀ (a c : List Byte) (b b' : Byte), sum8 (a ++ b :: b' :: c) = sum8 (a ++ b' :: b :: c))

/-- R30, R8: field reads are big-endian and signed fields are two's complement; that "signed" means two's complement is
PRESUMED (general knowledge, R8's own mark, notes/assumptions/16.md). -/
def Obligations.FieldReadsAreBigEndian : Prop :=
  (∀ (P : List Byte) (o : Nat) (h : o + 1 ≤ P.length), (memRead8 P o h).toNat = (P.getD o 0).toNat) ∧
  (∀ (P : List Byte) (o : Nat) (h : o + 2 ≤ P.length), (memRead16 P o h).toNat = u16 P o ∧ sext16 (memRead16 P o h) = s16 P o) ∧
  (∀ (P : List Byte) (o : Nat) (h : o + 4 ≤ P.length), (memRead32 P o h).toNat = u32 P o ∧ sext32 (memRead32 P o h) = s32 P o)

/-- R31, R30: a field read after it was written gives the value, every byte outside it is as before, and the encoder's
fields are `MemWrite`'s bytes; wherever the field lies, also at and beyond the end of the sequence under construction. That
the sequence then grows up to the field is the model's choice (DESIGN CHOICE, notes/assumptions/35.md). -/
def Obligations.FieldWriteThenRead : Prop :=
  (∀ (P : List Byte) (o : Nat) (v : Half),
    (∃ h : o + 2 ≤ (memWrite P o 2 v.toNat).length, memRead16 (memWrite P o 2 v.toNat) o h = v) ∧
    (memWrite P o 2 v.toNat).length = max P.length (o + 2) ∧
    ∀ j, j < P.length → j < o ∨ o + 2 ≤ j → (memWrite P o 2 v.toNat)[j]? = P[j]?) ∧
  (∀ (P : List Byte) (o : Nat) (v : Long),
    (∃ h : o + 4 ≤ (memWrite P o 4 v.toNat).length, memRead32 (memWrite P o 4 v.toNat) o h = v) ∧
    (memWrite P o 4 v.toNat).length = max P.length (o + 4) ∧
    ∀ j, j < P.length → j < o ∨ o + 4 ≤ j → (memWrite P o 4 v.toNat)[j]? = P[j]?) ∧
  (∀ v : Half, bytes16 v = memWrite [] 0 2 v.toNat) ∧ (∀ v : Long, bytes32 v = memWrite [] 0 4 v.toNat)

/-! ### Transmitting -/

/-- R60, R61, R63: `ENCODE` appends the whole frame and returns it when the write completes, or refuses an overlength payload
and appends nothing. That the environment decides of each write from a list (notes/assumptions/13.md), and that the host's
record is as before also for a catalogued type and payload (notes/assumptions/32.md), are the model's choices
(DESIGN CHOICE). -/
def Obligations.EncodeAppendsOrRefuses : Prop :=
  ∀ (t : Byte) (p : List Byte) (s : State),
    (p.length ≤ 253 → WriteCompletes s → exec (.encode t p) s = .next { s with
      txStream := s.txStream ++ ([0x24, t, BitVec.ofNat 8 (p.length + 2)] ++ p ++
        [sum8 ([0x24, t, BitVec.ofNat 8 (p.length + 2)] ++ p), 0x23])
      writeTimeouts := s.writeTimeouts.tail
      results := s.results ++ [.frame ([0x24, t, BitVec.ofNat 8 (p.length + 2)] ++ p ++
        [sum8 ([0x24, t, BitVec.ofNat 8 (p.length + 2)] ++ p), 0x23])] }) ∧
    (253 < p.length → exec (.encode t p) s = .next { s with
      results := s.results ++ [.error (.encodeLengthError p.length)] })

/-- R106, R107, R108, R111, R112, R116, R117, R120, R122, R124: when the write completes, the ten fixed requests append
their literal bytes; the host's record changes as the rule says, and nothing else does. That `STOP` turns the mode off
(notes/assumptions/9.md) and that `REBOOT` leaves the host's record (R116 does not describe it, notes/assumptions/30.md) are
the model's choices, and so is the list of the environment's decisions on writes (notes/assumptions/13.md). -/
def Obligations.FixedRequestsTransmit : Prop :=
  ∀ s : State, WriteCompletes s →
    exec .smodeQuat s = .next { s with
      txStream := s.txStream ++ [0x24, 0x0A, 0x03, 0x01, 0x32, 0x23]
      writeTimeouts := s.writeTimeouts.tail
      results := s.results ++ [.frame [0x24, 0x0A, 0x03, 0x01, 0x32, 0x23]]
      session := { s.session with mode := .quaternion } } ∧
    exec .smodeRaw s = .next { s with
      txStream := s.txStream ++ [0x24, 0x0A, 0x03, 0x03, 0x34, 0x23]
      writeTimeouts := s.writeTimeouts.tail
      results := s.results ++ [.frame [0x24, 0x0A, 0x03, 0x03, 0x34, 0x23]]
      session := { s.session with mode := .raw } } ∧
    exec .smodeOff s = .next { s with
      txStream := s.txStream ++ [0x24, 0x0A, 0x03, 0x00, 0x31, 0x23]
      writeTimeouts := s.writeTimeouts.tail
      results := s.results ++ [.frame [0x24, 0x0A, 0x03, 0x00, 0x31, 0x23]] } ∧
    exec .stop s = .next { s with
      txStream := s.txStream ++ [0x24, 0x0B, 0x02, 0x31, 0x23]
      writeTimeouts := s.writeTimeouts.tail
      results := s.results ++ [.frame [0x24, 0x0B, 0x02, 0x31, 0x23]]
      session := { s.session with mode := .off } } ∧
    exec .infoReq s = .next { s with
      txStream := s.txStream ++ [0x24, 0x0C, 0x02, 0x32, 0x23]
      writeTimeouts := s.writeTimeouts.tail
      results := s.results ++ [.frame [0x24, 0x0C, 0x02, 0x32, 0x23]] } ∧
    exec .reboot s = .next { s with
      txStream := s.txStream ++ [0x24, 0x0E, 0x02, 0x34, 0x23]
      writeTimeouts := s.writeTimeouts.tail
      results := s.results ++ [.frame [0x24, 0x0E, 0x02, 0x34, 0x23]] } ∧
    exec .labelGet s = .next { s with
      txStream := s.txStream ++ [0x24, 0x11, 0x02, 0x37, 0x23]
      writeTimeouts := s.writeTimeouts.tail
      results := s.results ++ [.frame [0x24, 0x11, 0x02, 0x37, 0x23]] } ∧
    exec .fwverReq s = .next { s with
      txStream := s.txStream ++ [0x24, 0x13, 0x02, 0x39, 0x23]
      writeTimeouts := s.writeTimeouts.tail
      results := s.results ++ [.frame [0x24, 0x13, 0x02, 0x39, 0x23]] } ∧
    exec .calibStart s = .next { s with
      txStream := s.txStream ++ [0x24, 0x31, 0x02, 0x57, 0x23]
      writeTimeouts := s.writeTimeouts.tail
      results := s.results ++ [.frame [0x24, 0x31, 0x02, 0x57, 0x23]]
      session := { s.session with calib := .running [] } } ∧
    exec .poweroff s = .next { s with
      txStream := s.txStream ++ [0x24, 0x40, 0x02, 0x66, 0x23]
      writeTimeouts := s.writeTimeouts.tail
      results := s.results ++ [.frame [0x24, 0x40, 0x02, 0x66, 0x23]]
      session := { s.session with isOpen := false } }

/-- R114, R118, R125, R54: when the write completes, the requests with operands append their fields big-endian under the
additive checksum; and the host's two calls that compute operands: `SET_LABEL` pads the string with `0x00` up to 16 bytes,
sends it and awaits type `0x11`, `SET_VIBRO` sends the five bytes of the intensities and `VIBRO_RESERVED`. That a longer
string is refused (DESIGN CHOICE, notes/assumptions/24.md), the entry of the host's surface around the calls (DEDUCED,
notes/assumptions/31.md) and the list of the environment's decisions (DESIGN CHOICE, notes/assumptions/13.md) are the model's
choices. -/
def Obligations.OperandRequestsTransmit : Prop :=
  ∀ s : State, WriteCompletes s →
    (∀ hi lo : Byte, exec (.setidReq (hi ++ lo)) s = .next { s with
      txStream := s.txStream ++ [0x24, 0x0D, 0x04, hi, lo, 0x35 + hi + lo, 0x23]
      writeTimeouts := s.writeTimeouts.tail
      results := s.results ++ [.frame [0x24, 0x0D, 0x04, hi, lo, 0x35 + hi + lo, 0x23]] }) ∧
    (∀ l : Vector Byte 16, exec (.labelSet l) s = .next { s with
      txStream := s.txStream ++ ([0x24, 0x11, 0x12] ++ l.toList ++ [0x47 + sum8 l.toList, 0x23])
      writeTimeouts := s.writeTimeouts.tail
      results := s.results ++ [.frame ([0x24, 0x11, 0x12] ++ l.toList ++ [0x47 + sum8 l.toList, 0x23])] }) ∧
    (∀ a b c d e r : Byte, exec (.vibro a b c d e r) s = .next { s with
      txStream := s.txStream ++ [0x24, 0x60, 0x08, a, b, c, d, e, r, 0x8C + a + b + c + d + e + r, 0x23]
      writeTimeouts := s.writeTimeouts.tail
      results := s.results ++ [.frame [0x24, 0x60, 0x08, a, b, c, d, e, r, 0x8C + a + b + c + d + e + r, 0x23]] }) ∧
    (∀ (str : List Byte) (cs : List HostCall), HostTurn s → str.length ≤ 16 → ∃ calls : List HostCall,
      setLabel str = some calls ∧ (s.hostCalls = calls ++ cs → run 3 s = .next { s with
        hostCalls := .seqEnd :: cs
        txStream := s.txStream ++ mkFrame 0x11 (str ++ List.replicate (16 - str.length) 0x00)
        writeTimeouts := s.writeTimeouts.tail
        results := s.results ++ [.frame (mkFrame 0x11 (str ++ List.replicate (16 - str.length) 0x00))]
        expectedType := 0x11
        inCall := true
        session := { s.session with seq := some { connecting := false, start := s.results.length } } })) ∧
    (∀ str : List Byte, 16 < str.length → setLabel str = none) ∧
    (∀ (v : Vector Rat 5) (cs : List HostCall), HostTurn s → s.hostCalls = setVibro s.cfg v ++ cs → run 3 s = .next { s with
      hostCalls := cs
      txStream := s.txStream ++ mkFrame 0x60 (v.toList.map vibroByte ++ [s.cfg.vibroReserved])
      writeTimeouts := s.writeTimeouts.tail
      results := s.results ++ [.frame (mkFrame 0x60 (v.toList.map vibroByte ++ [s.cfg.vibroReserved]))]
      session := { s.session with seq := none } })

/-- R63, R133, R106: when the write of a request or of `ENCODE` times out the host sees `TimeoutError`, in `CONNECT` as a
`ConnectionError` (R134); nothing else changes but the environment's list of decisions and the model's count. Whether the
frame is on `TX_STREAM` is a free value (R63 leaves it open, notes/assumptions/13.md); the variant of the
`ConnectionError` (DEDUCED, notes/assumptions/21.md) and that the host notes nothing (DESIGN CHOICE,
notes/assumptions/34.md) are the model's choices. -/
def Obligations.WriteTimeoutReachesHost : Prop :=
  ∀ (s : State) (t : Byte) (p : List Byte), p.length ≤ 253 → s.writeTimeouts.headD false = true →
    ∃ u : State, u = { s with
        txStream := if Config.timedOutWriteLands s.timedOutWrites then s.txStream ++ mkFrame t p else s.txStream
        writeTimeouts := s.writeTimeouts.tail
        timedOutWrites := s.timedOutWrites + 1
        results := s.results ++ [.error (if s.session.connecting = true then .connectionError false else .timeoutError)] } ∧
      exec (.encode t p) s = .next u ∧ ∀ i : Instr, encode i = .frame .tx (mkFrame t p) → exec i s = .next u

/-- R125: the bytes of vibro intensities are nearest to `140 * clamp(v, 0, 1) + 110`, lie in 110..250 and take the ends at and
beyond 0 and 1, whatever the OPEN tie rule (`Config.vibroTieUp`, a free value, notes/assumptions/14.md) is. -/
def Obligations.VibroBytesClampAndScale : Prop :=
  (∀ v : Rat, 110 ≤ (vibroByte v).toNat ∧ (vibroByte v).toNat ≤ 250) ∧ (∀ v : Rat, v ≤ 0 → vibroByte v = 110) ∧
  (∀ v : Rat, 1 ≤ v → vibroByte v = 250) ∧
  (∀ v : Rat, |((vibroByte v).toNat : Rat) - (140 * max 0 (min v 1) + 110)| ≤ 1 / 2) ∧
  (∀ n : Nat, n ≤ 140 → (vibroByte ((n : Rat) / 140)).toNat = n + 110)

/-- R124, R159: after a `POWEROFF` whose write completes the machine takes no step (that it is stuck under a name is the
model's choice, notes/assumptions/18.md). -/
def Obligations.PowerOffEndsTheRun : Prop :=
  ∀ s t : State, WriteCompletes s → exec .poweroff s = .next t → step t = .fault .sessionClosed

/-- R63, R37 (O2): `TX_STREAM` is made of whole frames, before and after every step. -/
def Obligations.StepKeepsWholeFrames : Prop :=
  ∀ s t : State, TxWhole s → step s = .next t → TxWhole t

/-! ### The byte steps -/

/-- R66: bytes other than `0x24` are discarded in `HUNT`, any number of them in a row, without an error. -/
def Obligations.NoiseIsDiscarded : Prop :=
  (∀ (b : Byte) (s : State), exec (.rxDiscard b) s = .next { s with event := .none }) ∧
  (∀ (s : State) (noise : List Byte) (rest : List RxItem), Receiving s → s.rxState = .hunt → noise ≠ [] →
    (∀ b ∈ noise, b ≠ 0x24) → s.rxStream = bytesOf noise ++ rest →
    run noise.length s = .next { s with rxStream := rest, event := .none })

/-- R67: `0x24` in `HUNT` opens a frame; the running sum starts with it. -/
def Obligations.StartMarkerOpensFrame : Prop :=
  (∀ s : State, exec .rxSof s = .next { s with rxSum := 0x24, rxState := .type, event := .none }) ∧
  (∀ (s : State) (rest : List RxItem), Receiving s → s.rxState = .hunt → s.rxStream = .byte 0x24 :: rest →
    step s = .next { s with rxStream := rest, rxSum := 0x24, rxState := .type, event := .none })

/-- R68: in `TYPE` every byte, `0x24` included, is the type. -/
def Obligations.TypeByteIsLatched : Prop :=
  (∀ (b : Byte) (s : State), exec (.rxType b) s =
    .next { s with rxType := b, rxSum := s.rxSum + b, rxState := .len, event := .none }) ∧
  (∀ (s : State) (b : Byte) (rest : List RxItem), Receiving s → s.rxState = .type → s.rxStream = .byte b :: rest →
    step s = .next { s with rxStream := rest, rxType := b, rxSum := s.rxSum + b, rxState := .len, event := .none })

/-- R69: the length byte; 0 and 1 raise `PacketError(LEN_BAD)`, 2 skips `PAYLOAD`, the rest goes to `PAYLOAD`. That the error
also ends a running calibration is the model's choice (DEDUCED, notes/assumptions/21.md). -/
def Obligations.LengthByteIsLatched : Prop :=
  (∀ (b : Byte) (s : State),
    (b.toNat < 2 → exec (.rxLen b) s =
      .next (afterError { s with rxLen := b, rxSum := s.rxSum + b, rxCnt := 0 } (.pktErr 0b100) (.packetError 0b100))) ∧
    (b.toNat = 2 → exec (.rxLen b) s =
      .next { s with rxLen := b, rxSum := s.rxSum + b, rxCnt := 0, rxState := .csum, event := .none }) ∧
    (2 < b.toNat → exec (.rxLen b) s =
      .next { s with rxLen := b, rxSum := s.rxSum + b, rxCnt := 0, rxState := .payload, event := .none })) ∧
  (∀ (s : State) (b : Byte) (rest : List RxItem), Receiving s → s.rxState = .len → s.rxStream = .byte b :: rest →
    step s = exec (.rxLen b) { s with rxStream := rest })

/-- R70, R15: a payload byte is stored at `RX_BUF[RX_CNT]`, every other entry is as before, the last one leads to `CSUM`;
an entry outside the buffer, which no reachable state addresses (R24), stops: the model's choice
(DESIGN CHOICE, notes/assumptions/19.md). -/
def Obligations.PayloadByteIsStored : Prop :=
  (∀ (b : Byte) (s : State), s.rxBuf.wf = true → s.rxCnt.toNat < 253 →
    ∃ m : Memory, m.wf = true ∧ (∀ i : Nat, m.read i = if i = s.rxCnt.toNat then b else s.rxBuf.read i) ∧
      exec (.rxPayload b) s = .next { s with
        rxBuf := m
        rxSum := s.rxSum + b
        rxCnt := s.rxCnt + 1
        rxState := if (s.rxCnt.toNat : Int) + 1 = (s.rxLen.toNat : Int) - 2 then .csum else s.rxState
        event := .none }) ∧
  (∀ (b : Byte) (s : State), 253 ≤ s.rxCnt.toNat → exec (.rxPayload b) s = .fault (.noSuchBufEntry s.rxCnt.toNat)) ∧
  (∀ (s : State) (b : Byte) (rest : List RxItem), Receiving s → s.rxState = .payload → s.rxStream = .byte b :: rest →
    step s = exec (.rxPayload b) { s with rxStream := rest })

/-- R72: the checksum byte is kept for `END` and is not summed. -/
def Obligations.ChecksumByteIsLatched : Prop :=
  (∀ (b : Byte) (s : State), exec (.rxCsum b) s = .next { s with rxCsum := b, rxState := .endMark, event := .none }) ∧
  (∀ (s : State) (b : Byte) (rest : List RxItem), Receiving s → s.rxState = .csum → s.rxStream = .byte b :: rest →
    step s = .next { s with rxStream := rest, rxCsum := b, rxState := .endMark, event := .none })

/-- R73: validation, then the type filter; each outcome returns to `HUNT`. That a payload longer
than `RX_BUF`, which no reachable state holds (R24, I6), stops (DESIGN CHOICE, notes/assumptions/19.md), and that an error
also ends a running calibration (DEDUCED, notes/assumptions/21.md), are the model's choices. -/
def Obligations.EndByteJudgesFrame : Prop :=
  (∀ (b : Byte) (s : State),
    (s.rxCsum ≠ s.rxSum → b = 0x23 →
      exec (.rxEnd b) s = .next (afterError s (.pktErr 0b001) (.packetError 0b001))) ∧
    (s.rxCsum = s.rxSum → b ≠ 0x23 →
      exec (.rxEnd b) s = .next (afterError s (.pktErr 0b010) (.packetError 0b010))) ∧
    (s.rxCsum ≠ s.rxSum → b ≠ 0x23 →
      exec (.rxEnd b) s = .next (afterError s (.pktErr 0b011) (.packetError 0b011))) ∧
    (s.rxCsum = s.rxSum → b = 0x23 → s.rxType = s.expectedType → s.rxCnt.toNat ≤ 253 →
      exec (.rxEnd b) s = .next (afterAccept s s.rxType ((List.range s.rxCnt.toNat).map s.rxBuf.read))) ∧
    (s.rxCsum = s.rxSum → b = 0x23 → s.rxType = s.expectedType → 253 < s.rxCnt.toNat →
      exec (.rxEnd b) s = .fault (.noSuchBufEntry 253)) ∧
    (s.rxCsum = s.rxSum → b = 0x23 → s.rxType ≠ s.expectedType →
      exec (.rxEnd b) s = .next { s with rxState := .hunt, event := .none })) ∧
  (∀ (s : State) (b : Byte) (rest : List RxItem), Receiving s → s.rxState = .endMark → s.rxStream = .byte b :: rest →
    step s = exec (.rxEnd b) { s with rxStream := rest })

/-- R77: `ABORT` in any state abandons the frame in progress and reports `TimeoutError` (in `CONNECT` re-wrapped as
`ConnectionError`, R134); no byte is consumed. That it also ends a running calibration is the model's choice (DEDUCED,
notes/assumptions/21.md). -/
def Obligations.AbortAbandonsFrame : Prop :=
  (∀ s : State, exec .abort s = .next (afterError s .timeout .timeoutError)) ∧
  (∀ (s : State) (rest : List RxItem), Receiving s → s.rxStream = .abort :: rest →
    step s = .next (afterError { s with rxStream := rest } .timeout .timeoutError))

/-- R71: the transition table, in every state that meets the invariant. -/
def Obligations.TransitionTable : Prop :=
  ∀ (s : State) (b : Byte), Inv s → ∃ t : State, rxStep b s = .next t ∧
    (s.rxState = .hunt → b ≠ 0x24 → t.rxState = .hunt ∧ t.event = .none) ∧
    (s.rxState = .hunt → b = 0x24 → t.rxState = .type ∧ t.event = .none) ∧
    (s.rxState = .type → t.rxState = .len ∧ t.event = .none) ∧
    (s.rxState = .len → b.toNat < 2 → t.rxState = .hunt ∧ t.event = .pktErr 0b100) ∧
    (s.rxState = .len → b.toNat = 2 → t.rxState = .csum ∧ t.event = .none) ∧
    (s.rxState = .len → 3 ≤ b.toNat → t.rxState = .payload ∧ t.event = .none) ∧
    (s.rxState = .payload → s.rxCnt.toNat + 1 < s.rxLen.toNat - 2 → t.rxState = .payload ∧ t.event = .none) ∧
    (s.rxState = .payload → s.rxCnt.toNat + 1 = s.rxLen.toNat - 2 → t.rxState = .csum ∧ t.event = .none) ∧
    (s.rxState = .csum → t.rxState = .endMark ∧ t.event = .none) ∧
    (s.rxState = .endMark → s.rxCsum ≠ s.rxSum ∨ b ≠ 0x23 → t.rxState = .hunt ∧ ∃ c : ErrCause, c ≠ 0 ∧ t.event = .pktErr c) ∧
    (s.rxState = .endMark → s.rxCsum = s.rxSum → b = 0x23 → s.rxType = s.expectedType →
      t.rxState = .hunt ∧ t.event = .accept s.rxType s.payloadSoFar) ∧
    (s.rxState = .endMark → s.rxCsum = s.rxSum → b = 0x23 → s.rxType ≠ s.expectedType → t.rxState = .hunt ∧ t.event = .none) ∧
    (∃ u : State, exec .abort s = .next u ∧ u.rxState = .hunt ∧ u.event = .timeout)

/-- R65: in every state that meets the invariant every byte is accepted, and the step consumes exactly it. -/
def Obligations.EveryByteIsConsumedByOneStep : Prop :=
  ∀ (s : State) (b : Byte) (rest : List RxItem), Inv s → Receiving s → s.rxStream = .byte b :: rest →
    ∃ t : State, step s = .next t ∧ t.rxStream = rest

/-- R78: only `RX.END` reads `EXPECTED_TYPE`. -/
def Obligations.ExpectedTypeIsReadOnlyAtEnd : Prop :=
  ∀ (s : State) (b e : Byte), s.rxState ≠ .endMark → rxStep b (s.setExpected e) = mapNext (State.setExpected e) (rxStep b s)

/-- R74, R131: a frame that fails validation is reported whatever its type and `EXPECTED_TYPE` are. -/
def Obligations.CorruptFrameIsReportedWhateverExpected : Prop :=
  ∀ (s : State) (b e : Byte), s.rxState = .endMark → s.rxCsum ≠ s.rxSum ∨ b ≠ 0x23 →
    ∃ (t : State) (c : ErrCause), c ≠ 0 ∧ rxStep b s = .next t ∧ t.event = .pktErr c ∧
      rxStep b (s.setExpected e) = .next (t.setExpected e)

/-! ### Invariants -/

/-- R24, R63: the reset state meets the invariants. -/
def Obligations.ResetMeetsInvariants : Prop := Inv State.reset ∧ TxWhole State.reset

/-- R24: every step keeps the invariant, from every state that meets it. -/
def Obligations.StepKeepsInvariant : Prop :=
  ∀ s t : State, Inv s → step s = .next t → Inv t

/-- R65, R84: from a state that meets the invariant the machine goes on unless an agent has nothing to do, the session is
closed, or the host sends bytes that are no catalogued request; it never addresses an entry outside `RX_BUF`. The names of
the stuck states (notes/assumptions/18.md) and the refusal of such bytes (notes/assumptions/7.md) are the model's choices
(DESIGN CHOICE). -/
def Obligations.MachineStopsOnlyWhenNobodySteps : Prop :=
  ∀ s : State, Inv s →
    (∃ t : State, step s = .next t) ∨
    (step s = .fault .sessionClosed ∧ s.session.isOpen = false) ∨
    (step s = .fault .awaitingInput ∧ Receiving s ∧ s.rxStream = []) ∨
    (step s = .fault .hostIdle ∧ HostTurn s ∧ s.hostCalls = []) ∨
    (∃ (F : List Byte) (e : DecodeError) (cs : List HostCall), step s = .refused (.undecodable e) ∧ HostTurn s ∧
      s.hostCalls = .send F :: cs ∧ decode (.frame .tx F) = .error e)

/-- R16: no step changes the configuration. -/
def Obligations.ConfigurationNeverChanges : Prop :=
  ∀ s t : State, step s = .next t → t.cfg = s.cfg

/-- R84, R39, R60, R104: receiving never transmits and never touches the host's or `SDEC`'s state; a host step never
touches the decoder's registers, its event or `RX_STREAM`. -/
def Obligations.ReceivingAndTransmittingAreApart : Prop :=
  (∀ s t : State, s.inCall = true → step s = .next t → SameOutsideRx s t) ∧
  (∀ s t : State, s.inCall = false → step s = .next t →
    t.rxState = s.rxState ∧ t.rxCnt = s.rxCnt ∧ t.rxType = s.rxType ∧ t.rxLen = s.rxLen ∧ t.rxSum = s.rxSum ∧
    t.rxCsum = s.rxCsum ∧ t.rxBuf = s.rxBuf ∧ t.event = s.event ∧ t.rxStream = s.rxStream)

/-- R14, R15, R23: leftovers never matter. Two states that agree on what a rule may read take the same step and agree
again; so no result depends on a register or buffer entry that R23 leaves unspecified at reset, `EXPECTED_TYPE` among them. -/
def Obligations.LeftoversNeverMatter : Prop :=
  (∀ s t s' : State, Inv s → Inv t → SameLive s t → step s = .next s' → ∃ t' : State, step t = .next t' ∧ SameLive s' t') ∧
  (∀ (a b c d e : Byte) (m : Memory), SameLive State.reset
    { State.reset with rxType := a, rxLen := b, rxSum := c, rxCsum := d, rxBuf := m, expectedType := e })

/-- R84, R75: what is delivered has passed validation and has the expected type. -/
def Obligations.DeliveredFramesAreValidAndExpected : Prop :=
  ∀ (s t : State) (b ty : Byte) (p : List Byte) (rest : List RxItem), Inv s → Receiving s → s.rxStream = .byte b :: rest →
    step s = .next t → t.event = .accept ty p →
    s.rxState = .endMark ∧ ty = s.expectedType ∧ b = 0x23 ∧ p.length + 2 = s.rxLen.toNat ∧
    s.rxCsum = sum8 (0x24 :: ty :: s.rxLen :: p) ∧ t.results = s.results ++ [.payload p] ++ s.session.responseErrors ty p

/-! ### Whole frames -/

/-- R81: a well-formed frame fed byte by byte to a hunting decoder gives `NONE` on all bytes but the last and
`ACCEPT(t, p)` on the last; exactly its bytes are consumed. -/
def Obligations.WellFormedFrameIsAccepted : Prop :=
  ∀ (s : State) (p : List Byte) (rest : List RxItem), Inv s → Receiving s → s.rxState = .hunt → p.length ≤ 253 →
    s.rxStream = bytesOf (mkFrame s.expectedType p) ++ rest →
    (∀ k, 0 < k → k < p.length + 5 → ∃ u : State, run k s = .next u ∧ u.event = .none ∧ u.inCall = true ∧ u.results = s.results) ∧
    ∃ t : State, run (p.length + 5) s = .next t ∧ t.event = .accept s.expectedType p ∧ t.rxState = .hunt ∧
      t.inCall = false ∧ t.rxStream = rest ∧
      t.results = s.results ++ [.payload p] ++ s.session.responseErrors s.expectedType p ∧
      t.session = s.session.onResponse s.expectedType p ∧ SameOutsideRx s t ∧ FrameHeld s t s.expectedType p

/-- R75, R81: a well-formed frame of another type is consumed and skipped without event, error or result. -/
def Obligations.WellFormedFrameOfOtherTypeIsSkipped : Prop :=
  ∀ (s : State) (ty : Byte) (p : List Byte) (rest : List RxItem), Inv s → Receiving s → s.rxState = .hunt → p.length ≤ 253 →
    ty ≠ s.expectedType → s.rxStream = bytesOf (mkFrame ty p) ++ rest →
    (∀ k, 0 < k → k ≤ p.length + 5 → ∃ u : State, run k s = .next u ∧ u.event = .none ∧ u.inCall = true ∧ u.results = s.results) ∧
    ∃ t : State, run (p.length + 5) s = .next t ∧ t.rxState = .hunt ∧ t.rxStream = rest ∧ t.session = s.session ∧ SameOutsideRx s t ∧
      FrameHeld s t ty p

/-- R82: a frame with one changed payload, checksum or type byte is reported once as `CSUM_BAD`, one with a changed end byte
as `END_BAD`, whatever is expected; exactly its bytes are consumed and the decoder hunts at the next one, so a well-formed
frame that follows is decoded (`WellFormedFrameIsAccepted`). The end of a running calibration in `Reported` is the model's
choice (notes/assumptions/21.md). -/
def Obligations.OneCorruptByteIsReportedAndResynchronised : Prop :=
  ∀ (s : State) (ty : Byte) (p : List Byte) (rest : List RxItem), Inv s → Receiving s → s.rxState = .hunt → p.length ≤ 253 →
    (∀ (i : Nat) (b : Byte), p[i]? ≠ none → p[i]? ≠ some b →
      s.rxStream = bytesOf (0x24 :: ty :: BitVec.ofNat 8 (p.length + 2) :: p.set i b ++ [sum8 (frameBody ty p), 0x23]) ++ rest →
      Reported s (p.length + 5) 0b001 ty (p.set i b) rest) ∧
    (∀ c : Byte, c ≠ sum8 (frameBody ty p) → s.rxStream = bytesOf (frameBody ty p ++ [c, 0x23]) ++ rest →
      Reported s (p.length + 5) 0b001 ty p rest) ∧
    (∀ ty' : Byte, ty' ≠ ty → s.rxStream = bytesOf (frameBody ty' p ++ [sum8 (frameBody ty p), 0x23]) ++ rest →
      Reported s (p.length + 5) 0b001 ty' p rest) ∧
    (∀ e : Byte, e ≠ 0x23 → s.rxStream = bytesOf (frameBody ty p ++ [sum8 (frameBody ty p), e]) ++ rest →
      Reported s (p.length + 5) 0b010 ty p rest)

/-! ### The response kinds -/

/-- R113: an awaited device-info response is delivered and its fields are stored; the reserved bytes are ignored. -/
def Obligations.InfoResponseIsStored : Prop :=
  ∀ (s : State) (d r : Byte) (v : Half) (a n g : Long) (h r' : Byte), Awaiting s 0x0C →
    ∃ t : State, exec (.infoRsp d r v a n g h r') s = .next t ∧
      Delivered s t 0x0C ([d, r] ++ bytes16 v ++ bytes32 a ++ bytes32 n ++ bytes32 g ++ [h, r']) ∧
      t.results = s.results ++ [.payload ([d, r] ++ bytes16 v ++ bytes32 a ++ bytes32 n ++ bytes32 g ++ [h, r'])] ∧
      t.session = { s.session with identity := { s.session.identity with
        deviceType := some d, deviceId := some v, address := some a, netmask := some n, gateway := some g, dhcp := some h } }

/-- R115: the echoed id becomes the cached one. -/
def Obligations.SetidResponseIsCached : Prop :=
  ∀ (s : State) (v : Half), Awaiting s 0x0D →
    ∃ t : State, exec (.setidRsp v) s = .next t ∧ Delivered s t 0x0D (bytes16 v) ∧
      t.results = s.results ++ [.payload (bytes16 v)] ∧
      t.session = { s.session with identity := { s.session.identity with deviceId := some v } }

/-- R119: the label field is cached. That the whole 16-byte field is kept, padding included, is the model's choice: how the
padding is removed is not stated (DESIGN CHOICE, notes/assumptions/24.md). -/
def Obligations.LabelResponseIsCached : Prop :=
  ∀ (s : State) (l : Vector Byte 16), Awaiting s 0x11 →
    ∃ t : State, exec (.labelRsp l) s = .next t ∧ Delivered s t 0x11 l.toList ∧
      t.results = s.results ++ [.payload l.toList] ∧
      t.session = { s.session with identity := { s.session.identity with label := some l } }

/-- R121: the firmware version is stored. -/
def Obligations.FirmwareResponseIsStored : Prop :=
  ∀ (s : State) (a b c : Byte), Awaiting s 0x13 →
    ∃ t : State, exec (.fwverRsp a b c) s = .next t ∧ Delivered s t 0x13 [a, b, c] ∧
      t.results = s.results ++ [.payload [a, b, c]] ∧
      t.session = { s.session with identity := { s.session.identity with firmware := some (a, b, c) } }

/-- R123, R135: in a running calibration stage 100 succeeds, stage 255 is a `DeviceError`, every other stage is progress;
with no calibration running the stage is delivered and the record is as before (notes/assumptions/10.md). -/
def Obligations.CalibrationStageIsJudged : Prop :=
  ∀ (s : State) (st : Byte), Awaiting s 0x31 →
    ∃ t : State, exec (.calibStage st) s = .next t ∧ Delivered s t 0x31 [st] ∧
      (∀ ps, s.session.calib = .running ps → st = 100 →
        t.results = s.results ++ [.payload [st]] ∧ t.session = { s.session with calib := .succeeded ps }) ∧
      (∀ ps, s.session.calib = .running ps → st = 255 →
        t.results = s.results ++ [.payload [st], .error .deviceError] ∧ t.session = { s.session with calib := .failed ps }) ∧
      (∀ ps, s.session.calib = .running ps → st ≠ 100 → st ≠ 255 →
        t.results = s.results ++ [.payload [st]] ∧ t.session = { s.session with calib := .running (ps ++ [st]) }) ∧
      ((∀ ps, s.session.calib ≠ .running ps) → t.results = s.results ++ [.payload [st]] ∧ t.session = s.session)

/-- R109, R110: an awaited sample frame of either variant is delivered; the host's record is as before. -/
def Obligations.SampleFramesAreDelivered : Prop :=
  ∀ (s : State) (v : Half) (c : Long) (T : Vector Half 24), Awaiting s 0x0A →
    (∀ I : Vector Half 18, ∃ t : State, exec (.sampleRaw v c I T) s = .next t ∧
      Delivered s t 0x0A (0x03 :: (bytes16 v ++ bytes32 c ++ I.toList.flatMap bytes16 ++ T.toList.flatMap bytes16)) ∧
      t.results = s.results ++
        [.payload (0x03 :: (bytes16 v ++ bytes32 c ++ I.toList.flatMap bytes16 ++ T.toList.flatMap bytes16))] ∧
      t.session = s.session) ∧
    (∀ (st : Byte) (Q : Vector Long 8), ∃ t : State, exec (.sampleQuat st v c Q T) s = .next t ∧
      Delivered s t 0x0A (st :: (bytes16 v ++ bytes32 c ++ Q.toList.flatMap bytes32 ++ T.toList.flatMap bytes16)) ∧
      t.results = s.results ++
        [.payload (st :: (bytes16 v ++ bytes32 c ++ Q.toList.flatMap bytes32 ++ T.toList.flatMap bytes16))] ∧
      t.session = s.session)

/-- R75, R105: a response frame that is not the expected one leaves no event, no result and no trace in the host's record. -/
def Obligations.UnexpectedResponseIsSkipped : Prop :=
  ∀ (s : State) (i : Instr) (ty : Byte) (p : List Byte), Inv s → s.rxState = .hunt → p.length ≤ 253 →
    encode i = .frame .rx (mkFrame ty p) → ty ≠ s.expectedType →
    ∃ t : State, exec i s = .next t ∧ t.rxState = .hunt ∧ t.event = .none ∧ t.rxStream = s.rxStream ∧
      t.results = s.results ∧ t.session = s.session ∧ t.inCall = s.inCall ∧ SameOutsideRx s t ∧ FrameHeld s t ty p

/-- R65, R83: a response frame runs in every state that meets the invariant, also in the middle of another frame. -/
def Obligations.ResponseFramesRunAnywhere : Prop :=
  ∀ (s : State) (i : Instr) (F : List Byte), Inv s → encode i = .frame .rx F → ∃ t : State, exec i s = .next t

/-- R25, R80: a whole frame in `RX_STREAM` is its bytes (the model's shorthand, notes/assumptions/6.md). -/
def Obligations.FrameItemIsItsBytes : Prop :=
  ∀ (F : List Byte) (rest : List RxItem) (s : State), decodeLoop (.frame F :: rest) s = decodeLoop (bytesOf F ++ rest) s

/-- R80: the call-level `DecodeNext` and the steps agree: if the call returns, the steps reach the state it returns in;
if it blocks, the steps come to wait for input. -/
def Obligations.DecodeNextAgreesWithSteps : Prop :=
  ∀ (s : State) (E : Byte) (cs : List HostCall), HostTurn s → s.hostCalls = .decodeNext E :: cs →
    (∀ t : State, decodeNext E { s with hostCalls := cs } = .next t → ∃ k, run k s = .next t) ∧
    (decodeNext E { s with hostCalls := cs } = .fault .awaitingInput →
      ∃ (k : Nat) (u : State), run k s = .next u ∧ u.rxStream = [] ∧ step u = .fault .awaitingInput)

/-! ### The sample decoder -/

/-- R85: payload byte 0 alone selects the variant; the host's call runs it. -/
def Obligations.SubtypeSelectsVariant : Prop :=
  (∀ P : List Byte, decode (.sdec P) = .ok (if P.head? = some 0x03 then .sdecRaw P else .sdecQuat P)) ∧
  (∀ (s : State) (P : List Byte) (cs : List HostCall), HostTurn s → s.hostCalls = .sdec P :: cs →
    step s = exec (if P.head? = some 0x03 then .sdecRaw P else .sdecQuat P) { s with hostCalls := cs })

/-- R86 to R91, R93 to R98, R100, R102: every field of a raw sample, as the rule's formula over the payload bytes;
nothing else changes but `SDEC`'s own registers, its rendering and the host's results. Every negative component rests on
two's complement (PRESUMED, notes/assumptions/16.md), the wrist and hand groups and the tail's index map on
notes/assumptions/17.md (DEDUCED). -/
def Obligations.RawSampleFields : Prop :=
  ∀ (P : List Byte) (s : State), P.length = 91 →
    ∃ (t : State) (c : SampleCommon Rat) (w h : ImuSample Rat), exec (.sdecRaw P) s = .next t ∧
      t.sample = some (.raw c w h) ∧ t.results = s.results ++ [.sample (.raw c w h)] ∧ SdecFrame s t ∧
      HeaderAndTail P 43 s.cfg.jointOrder c ∧
      (∀ k : Fin 3,
        w.angularVelocity[k] = (s16 P (7 + 2 * k.val) : Rat) * 10 / 32768 ∧
        w.acceleration[k] = (s16 P (13 + 2 * k.val) : Rat) * 4 / 32768 ∧
        w.magneticField[k] = (s16 P (19 + 2 * k.val) : Rat) ∧
        h.angularVelocity[k] = (s16 P (25 + 2 * k.val) : Rat) * 10 / 32768 ∧
        h.acceleration[k] = (s16 P (31 + 2 * k.val) : Rat) * 4 / 32768 ∧
        h.magneticField[k] = (s16 P (37 + 2 * k.val) : Rat))

/-- R86, R87, R92 to R98, R100, R102: every field of a quaternion sample. Every negative component rests on two's complement
(PRESUMED, notes/assumptions/16.md), the tail's index map on notes/assumptions/17.md (DEDUCED). -/
def Obligations.QuaternionSampleFields : Prop :=
  ∀ (P : List Byte) (s : State), P.length = 87 →
    ∃ (t : State) (c : SampleCommon Rat) (w h : Machine.Quaternion Rat), exec (.sdecQuat P) s = .next t ∧
      t.sample = some (.quat c w h) ∧ t.results = s.results ++ [.sample (.quat c w h)] ∧ SdecFrame s t ∧
      HeaderAndTail P 39 s.cfg.jointOrder c ∧
      w = { x := (s32 P 7 : Rat) / 65536, y := (s32 P 11 : Rat) / 65536, z := (s32 P 15 : Rat) / 65536, w := (s32 P 19 : Rat) / 65536 } ∧
      h = { x := (s32 P 23 : Rat) / 65536, y := (s32 P 27 : Rat) / 65536, z := (s32 P 31 : Rat) / 65536, w := (s32 P 35 : Rat) / 65536 }

/-- R19, R85, R87, R88, R92, R93: what a successful `SDEC` leaves in its intermediate registers: `S_SUBTYPE`, `S_DEVID`,
`S_CLOCK_MS`, `I` or `Qr` (and by it `S_VARIANT`), `T`. That they stay visible after the call is the model's choice
(notes/assumptions/28.md), and the signed readings are two's complement (PRESUMED, notes/assumptions/16.md). -/
def Obligations.SdecIntermediates : Prop :=
  (∀ (P : List Byte) (s : State), P.length = 91 → ∃ (t : State) (r : SdecRegs) (I : Vector Half 18),
    exec (.sdecRaw P) s = .next t ∧ t.sdecRegs = some r ∧ P.head? = some r.subtype ∧ r.deviceId.toNat = u16 P 1 ∧
    r.clockMs.toNat = u32 P 3 ∧ r.body = .raw I ∧ (∀ i : Fin 18, sext16 I[i] = s16 P (7 + 2 * i.val)) ∧
    ∀ j : Fin 24, r.tail[j].toNat = u16 P (43 + 2 * j.val)) ∧
  (∀ (P : List Byte) (s : State), P.length = 87 → ∃ (t : State) (r : SdecRegs) (Qr : Vector Long 8),
    exec (.sdecQuat P) s = .next t ∧ t.sdecRegs = some r ∧ P.head? = some r.subtype ∧ r.deviceId.toNat = u16 P 1 ∧
    r.clockMs.toNat = u32 P 3 ∧ r.body = .quat Qr ∧ (∀ i : Fin 8, sext32 Qr[i] = s32 P (7 + 4 * i.val)) ∧
    ∀ j : Fin 24, r.tail[j].toNat = u16 P (39 + 2 * j.val))

/-- R86, R136: a payload of any other length, the empty one included, raises `SampleLengthError` and changes nothing else. -/
def Obligations.WrongSampleLengthIsAnError : Prop :=
  ∀ (P : List Byte) (s : State),
    (P.length ≠ 91 → exec (.sdecRaw P) s = .next { s with results := s.results ++ [.error (.sampleLengthError P.length)] }) ∧
    (P.length ≠ 87 → exec (.sdecQuat P) s = .next { s with results := s.results ++ [.error (.sampleLengthError P.length)] })

/-- R99: no field of a sample depends on `T[11]` or `T[13]`, in either variant and in either rendering. -/
def Obligations.UnusedTailValuesAreIgnored : Prop :=
  (∀ (P P' : List Byte) (s t t' : State), P.length = 91 → P'.length = 91 →
    (∀ o, o ≠ 65 → o ≠ 66 → o ≠ 69 → o ≠ 70 → P[o]? = P'[o]?) →
    exec (.sdecRaw P) s = .next t → exec (.sdecRaw P') s = .next t' → t.sample = t'.sample ∧ t.rendered = t'.rendered) ∧
  (∀ (P P' : List Byte) (s t t' : State), P.length = 87 → P'.length = 87 →
    (∀ o, o ≠ 61 → o ≠ 62 → o ≠ 65 → o ≠ 66 → P[o]? = P'[o]?) →
    exec (.sdecQuat P) s = .next t → exec (.sdecQuat P') s = .next t' → t.sample = t'.sample ∧ t.rendered = t'.rendered)

/-- R101: `roundBinary64` rounds correctly (to nearest, ties to even) every rational of binary64's normal range, so every
binary64 value of that range is its own rendering; a dyadic rational `n / 2^k` of at most 53 significant bits in particular,
so the fields of R89 to R92 are rendered exactly. -/
def Obligations.DyadicValuesRenderExactly : Prop :=
  (∀ x : Rat, (2 : Rat) ^ (-1022 : Int) ≤ |x| → |x| ≤ (2 ^ 53 - 1) * (2 : Rat) ^ (971 : Int) → CorrectlyRounded x (roundBinary64 x)) ∧
  (∀ x : Rat, (2 : Rat) ^ (-1022 : Int) ≤ |x| → IsBinary64 x → roundBinary64 x = x) ∧
  (∀ (n : Int) (k : Nat), n.natAbs < 2 ^ 53 → k ≤ 1000 →
    roundBinary64 ((n : Rat) / ((2 ^ k : Nat) : Rat)) = (n : Rat) / ((2 ^ k : Nat) : Rat))

/-- R101: the pattern `bitsBinary64` gives for a dyadic value in the normal range means that value: sign, biased exponent
and fraction of IEEE 754 binary64. -/
def Obligations.BinaryPatternsMeanTheirValue : Prop :=
  ∀ (n : Int) (k : Nat), n ≠ 0 → n.natAbs < 2 ^ 53 → k ≤ 1000 →
    ∃ b : Nat, (bitsBinary64 ((n : Rat) / ((2 ^ k : Nat) : Rat))).toNat = b ∧
      (n : Rat) / ((2 ^ k : Nat) : Rat) = (if b / 2 ^ 63 = 1 then -1 else 1) * (2 ^ 52 + ((b % 2 ^ 52 : Nat) : Rat)) *
        (2 : Rat) ^ (((b / 2 ^ 52 % 2048 : Nat) : Int) - 1075)

/-- R101: with `NUM` binary64 every field of a sample, in both variants, is rendered with the roundings R101 writes out, each
of them correct for every raw value a field can hold, and the fields of R89 to R92 without any. That `NUM` exact renders nothing is the model's choice (notes/assumptions/15.md); the
signed readings and the index maps rest on notes/assumptions/16.md (PRESUMED) and 17.md (DEDUCED). -/
def Obligations.RenderingFollowsNum : Prop :=
  (∀ (P : List Byte) (s : State), P.length = 91 → ∃ t : State, exec (.sdecRaw P) s = .next t ∧
    (s.cfg.num = .exact → t.rendered = none) ∧
    (s.cfg.num = .binary64 → ∃ (c : SampleCommon (BitVec 64)) (w h : ImuSample (BitVec 64)), t.rendered = some (.raw c w h) ∧
      HeaderAndTailRendered P 43 s.cfg.jointOrder c ∧
      ∀ k : Fin 3,
        w.angularVelocity[k] = bitsBinary64 ((s16 P (7 + 2 * k.val) : Rat) * 10 / 32768) ∧
        w.acceleration[k] = bitsBinary64 ((s16 P (13 + 2 * k.val) : Rat) * 4 / 32768) ∧
        w.magneticField[k] = bitsBinary64 (s16 P (19 + 2 * k.val) : Rat) ∧
        h.angularVelocity[k] = bitsBinary64 ((s16 P (25 + 2 * k.val) : Rat) * 10 / 32768) ∧
        h.acceleration[k] = bitsBinary64 ((s16 P (31 + 2 * k.val) : Rat) * 4 / 32768) ∧
        h.magneticField[k] = bitsBinary64 (s16 P (37 + 2 * k.val) : Rat))) ∧
  (∀ (P : List Byte) (s : State), P.length = 87 → ∃ t : State, exec (.sdecQuat P) s = .next t ∧
    (s.cfg.num = .exact → t.rendered = none) ∧
    (s.cfg.num = .binary64 → ∃ (c : SampleCommon (BitVec 64)) (w h : Machine.Quaternion (BitVec 64)),
      t.rendered = some (.quat c w h) ∧ HeaderAndTailRendered P 39 s.cfg.jointOrder c ∧
      w = { x := bitsBinary64 ((s32 P 7 : Rat) / 65536), y := bitsBinary64 ((s32 P 11 : Rat) / 65536),
            z := bitsBinary64 ((s32 P 15 : Rat) / 65536), w := bitsBinary64 ((s32 P 19 : Rat) / 65536) } ∧
      h = { x := bitsBinary64 ((s32 P 23 : Rat) / 65536), y := bitsBinary64 ((s32 P 27 : Rat) / 65536),
            z := bitsBinary64 ((s32 P 31 : Rat) / 65536), w := bitsBinary64 ((s32 P 35 : Rat) / 65536) })) ∧
  (∀ raw : Nat, raw < 2 ^ 32 → CorrectlyRounded ((raw : Rat) / 1000) (roundBinary64 ((raw : Rat) / 1000))) ∧
  (∀ raw : Nat, raw < 2 ^ 16 → CorrectlyRounded ((raw : Rat) / 999) (roundBinary64 ((raw : Rat) / 999)) ∧
    CorrectlyRounded (1 - roundBinary64 ((raw : Rat) / 999)) (roundBinary64 (1 - roundBinary64 ((raw : Rat) / 999))))

/-- R101, R96: a pressure is rendered by two roundings; it is exactly 1.0 at raw 0 and exactly 0.0 at raw 999. -/
def Obligations.PressureRenderingEndpoints : Prop :=
  binary64Numerics.pressure 0 = 0x3FF0000000000000 ∧ binary64Numerics.pressure 999 = 0 ∧
  binary64Numerics.pressure 333 = 0x3FE5555555555556

/-! ### The machine -/

/-- When the fetched packet decodes to an instruction, the step is that instruction's meaning in the state past the
packet; and what is fetched from each source. The whole-frame item (notes/assumptions/6.md) and the `send` call
(notes/assumptions/7.md) are the model's own forms (DESIGN CHOICE). -/
def Obligations.StepRunsTheDecodedInstruction : Prop :=
  (∀ (s s' : State) (pk : Packet) (i : Instr), fetch s = .packet pk s' → decode pk = .ok i → step s = exec i s') ∧
  (∀ (s : State) (b : Byte) (rest : List RxItem), Receiving s → s.rxStream = .byte b :: rest →
    fetch s = .packet (.rxByte s.rxState b) { s with rxStream := rest }) ∧
  (∀ (s : State) (rest : List RxItem), Receiving s → s.rxStream = .abort :: rest →
    fetch s = .packet .abort { s with rxStream := rest }) ∧
  (∀ (s : State) (F : List Byte) (i : Instr) (rest : List RxItem), Receiving s → s.rxStream = .frame F :: rest →
    decode (.frame .rx F) = .ok i → step s = exec i { s with rxStream := rest }) ∧
  (∀ (s : State) (F : List Byte) (i : Instr) (cs : List HostCall), HostTurn s → s.hostCalls = .send F :: cs →
    decode (.frame .tx F) = .ok i → step s = exec i { s with hostCalls := cs }) ∧
  (∀ (s : State) (t : Byte) (p : List Byte) (cs : List HostCall), HostTurn s → s.hostCalls = .encode t p :: cs →
    step s = exec (.encode t p) { s with hostCalls := cs })

/-- R80, R143, R123, R140, R159: the host's actions that are no instruction. The model's choices among them: the settle delay
as a call that changes nothing (DESIGN CHOICE, notes/assumptions/25.md), `sdecLast` doing nothing without a payload
(DESIGN CHOICE, notes/assumptions/33.md), and that the first error of an entry of the host's surface drops the entry's
further calls (DEDUCED, notes/assumptions/31.md). -/
def Obligations.HostActionsStep : Prop :=
  (∀ (s : State) (cs : List HostCall), HostTurn s →
    (∀ E, s.hostCalls = .decodeNext E :: cs → step s = .next { s with hostCalls := cs, expectedType := E, inCall := true }) ∧
    (∀ E, s.hostCalls = .writeExpected E :: cs → step s = .next { s with hostCalls := cs, expectedType := E }) ∧
    (s.hostCalls = .settle :: cs → step s = .next { s with hostCalls := cs }) ∧
    (s.hostCalls = .close :: cs → ∃ t : State, step s = .next t ∧ t = { s with hostCalls := cs, session := { s.session with isOpen := false } } ∧
      step t = .fault .sessionClosed) ∧
    (s.hostCalls = .sdecLast :: cs → ∀ P, s.results.getLast? = some (.payload P) →
      step s = exec (if P.head? = some 0x03 then .sdecRaw P else .sdecQuat P) { s with hostCalls := cs }) ∧
    (s.hostCalls = .sdecLast :: cs → (∀ P, s.results.getLast? ≠ some (.payload P)) → step s = .next { s with hostCalls := cs }) ∧
    (s.hostCalls = .calibLoop :: cs → ∀ ps, s.session.calib = .running ps →
      step s = .next { s with hostCalls := .decodeNext 0x31 :: .calibLoop :: cs }) ∧
    (s.hostCalls = .calibLoop :: cs → (∀ ps, s.session.calib ≠ .running ps) → step s = .next { s with hostCalls := cs }) ∧
    (∀ c, s.hostCalls = .seqBegin c :: cs → step s = .next { s with
      hostCalls := cs, session := { s.session with seq := some { connecting := c, start := s.results.length } } }) ∧
    (s.hostCalls = .seqEnd :: cs → step s = .next { s with hostCalls := cs, session := { s.session with seq := none } })) ∧
  (∀ (s : State) (q : HostSeq) (e : Err) (rs : List Result) (skipped after : List HostCall), s.session.isOpen = true →
    s.inCall = false → s.session.seq = some q → q.start ≤ rs.length → s.results = rs ++ [.error e] →
    HostCall.seqEnd ∉ skipped → s.hostCalls = skipped ++ .seqEnd :: after →
    step s = .next { s with hostCalls := after, session := { s.session with seq := none } })

/-- R23, R155: the values the spec states for reset. -/
def Obligations.ResetValues : Prop :=
  State.reset.rxState = .hunt ∧ State.reset.rxCnt = 0 ∧ State.reset.event = .none ∧ State.reset.rxStream = [] ∧
  State.reset.txStream = [] ∧ State.reset.sdecRegs = none ∧ State.reset.sample = none ∧
  State.reset.cfg.jointOrder = .dipOdd ∧ State.reset.inCall = false
end

