-- ==== Sys2Proof/Laws/State.lean ====
section
/-! SUPPORT. One lemma per field of State per named update: what the update leaves and what it writes, each true by rfl. -/

namespace Sys2Proof.Machine

/-! ### State.emit -/

@[simp] theorem State.emit_rxState (ev : Event) (s : State) : (s.emit ev).rxState = s.rxState := rfl
@[simp] theorem State.emit_rxCnt (ev : Event) (s : State) : (s.emit ev).rxCnt = s.rxCnt := rfl
@[simp] theorem State.emit_rxType (ev : Event) (s : State) : (s.emit ev).rxType = s.rxType := rfl
@[simp] theorem State.emit_rxLen (ev : Event) (s : State) : (s.emit ev).rxLen = s.rxLen := rfl
@[simp] theorem State.emit_rxSum (ev : Event) (s : State) : (s.emit ev).rxSum = s.rxSum := rfl
@[simp] theorem State.emit_rxCsum (ev : Event) (s : State) : (s.emit ev).rxCsum = s.rxCsum := rfl
@[simp] theorem State.emit_rxBuf (ev : Event) (s : State) : (s.emit ev).rxBuf = s.rxBuf := rfl
@[simp] theorem State.emit_expectedType (ev : Event) (s : State) : (s.emit ev).expectedType = s.expectedType := rfl
@[simp] theorem State.emit_event (ev : Event) (s : State) : (s.emit ev).event = ev := rfl
@[simp] theorem State.emit_rxStream (ev : Event) (s : State) : (s.emit ev).rxStream = s.rxStream := rfl
@[simp] theorem State.emit_txStream (ev : Event) (s : State) : (s.emit ev).txStream = s.txStream := rfl
@[simp] theorem State.emit_writeTimeouts (ev : Event) (s : State) : (s.emit ev).writeTimeouts = s.writeTimeouts := rfl
@[simp] theorem State.emit_timedOutWrites (ev : Event) (s : State) : (s.emit ev).timedOutWrites = s.timedOutWrites := rfl
@[simp] theorem State.emit_sdecRegs (ev : Event) (s : State) : (s.emit ev).sdecRegs = s.sdecRegs := rfl
@[simp] theorem State.emit_sample (ev : Event) (s : State) : (s.emit ev).sample = s.sample := rfl
@[simp] theorem State.emit_rendered (ev : Event) (s : State) : (s.emit ev).rendered = s.rendered := rfl
@[simp] theorem State.emit_inCall (ev : Event) (s : State) : (s.emit ev).inCall = s.inCall := rfl
@[simp] theorem State.emit_hostCalls (ev : Event) (s : State) : (s.emit ev).hostCalls = s.hostCalls := rfl
@[simp] theorem State.emit_results (ev : Event) (s : State) : (s.emit ev).results = s.results := rfl
@[simp] theorem State.emit_session (ev : Event) (s : State) : (s.emit ev).session = s.session := rfl
@[simp] theorem State.emit_cfg (ev : Event) (s : State) : (s.emit ev).cfg = s.cfg := rfl

/-! ### State.setRxState -/

@[simp] theorem State.setRxState_rxState (q : RxState) (s : State) : (s.setRxState q).rxState = q := rfl
@[simp] theorem State.setRxState_rxCnt (q : RxState) (s : State) : (s.setRxState q).rxCnt = s.rxCnt := rfl
@[simp] theorem State.setRxState_rxType (q : RxState) (s : State) : (s.setRxState q).rxType = s.rxType := rfl
@[simp] theorem State.setRxState_rxLen (q : RxState) (s : State) : (s.setRxState q).rxLen = s.rxLen := rfl
@[simp] theorem State.setRxState_rxSum (q : RxState) (s : State) : (s.setRxState q).rxSum = s.rxSum := rfl
@[simp] theorem State.setRxState_rxCsum (q : RxState) (s : State) : (s.setRxState q).rxCsum = s.rxCsum := rfl
@[simp] theorem State.setRxState_rxBuf (q : RxState) (s : State) : (s.setRxState q).rxBuf = s.rxBuf := rfl
@[simp] theorem State.setRxState_expectedType (q : RxState) (s : State) : (s.setRxState q).expectedType = s.expectedType := rfl
@[simp] theorem State.setRxState_event (q : RxState) (s : State) : (s.setRxState q).event = s.event := rfl
@[simp] theorem State.setRxState_rxStream (q : RxState) (s : State) : (s.setRxState q).rxStream = s.rxStream := rfl
@[simp] theorem State.setRxState_txStream (q : RxState) (s : State) : (s.setRxState q).txStream = s.txStream := rfl
@[simp] theorem State.setRxState_writeTimeouts (q : RxState) (s : State) : (s.setRxState q).writeTimeouts = s.writeTimeouts := rfl
@[simp] theorem State.setRxState_timedOutWrites (q : RxState) (s : State) : (s.setRxState q).timedOutWrites = s.timedOutWrites := rfl
@[simp] theorem State.setRxState_sdecRegs (q : RxState) (s : State) : (s.setRxState q).sdecRegs = s.sdecRegs := rfl
@[simp] theorem State.setRxState_sample (q : RxState) (s : State) : (s.setRxState q).sample = s.sample := rfl
@[simp] theorem State.setRxState_rendered (q : RxState) (s : State) : (s.setRxState q).rendered = s.rendered := rfl
@[simp] theorem State.setRxState_inCall (q : RxState) (s : State) : (s.setRxState q).inCall = s.inCall := rfl
@[simp] theorem State.setRxState_hostCalls (q : RxState) (s : State) : (s.setRxState q).hostCalls = s.hostCalls := rfl
@[simp] theorem State.setRxState_results (q : RxState) (s : State) : (s.setRxState q).results = s.results := rfl
@[simp] theorem State.setRxState_session (q : RxState) (s : State) : (s.setRxState q).session = s.session := rfl
@[simp] theorem State.setRxState_cfg (q : RxState) (s : State) : (s.setRxState q).cfg = s.cfg := rfl

/-! ### State.setExpected -/

@[simp] theorem State.setExpected_rxState (e : Byte) (s : State) : (s.setExpected e).rxState = s.rxState := rfl
@[simp] theorem State.setExpected_rxCnt (e : Byte) (s : State) : (s.setExpected e).rxCnt = s.rxCnt := rfl
@[simp] theorem State.setExpected_rxType (e : Byte) (s : State) : (s.setExpected e).rxType = s.rxType := rfl
@[simp] theorem State.setExpected_rxLen (e : Byte) (s : State) : (s.setExpected e).rxLen = s.rxLen := rfl
@[simp] theorem State.setExpected_rxSum (e : Byte) (s : State) : (s.setExpected e).rxSum = s.rxSum := rfl
@[simp] theorem State.setExpected_rxCsum (e : Byte) (s : State) : (s.setExpected e).rxCsum = s.rxCsum := rfl
@[simp] theorem State.setExpected_rxBuf (e : Byte) (s : State) : (s.setExpected e).rxBuf = s.rxBuf := rfl
@[simp] theorem State.setExpected_expectedType (e : Byte) (s : State) : (s.setExpected e).expectedType = e := rfl
@[simp] theorem State.setExpected_event (e : Byte) (s : State) : (s.setExpected e).event = s.event := rfl
@[simp] theorem State.setExpected_rxStream (e : Byte) (s : State) : (s.setExpected e).rxStream = s.rxStream := rfl
@[simp] theorem State.setExpected_txStream (e : Byte) (s : State) : (s.setExpected e).txStream = s.txStream := rfl
@[simp] theorem State.setExpected_writeTimeouts (e : Byte) (s : State) : (s.setExpected e).writeTimeouts = s.writeTimeouts := rfl
@[simp] theorem State.setExpected_timedOutWrites (e : Byte) (s : State) : (s.setExpected e).timedOutWrites = s.timedOutWrites := rfl
@[simp] theorem State.setExpected_sdecRegs (e : Byte) (s : State) : (s.setExpected e).sdecRegs = s.sdecRegs := rfl
@[simp] theorem State.setExpected_sample (e : Byte) (s : State) : (s.setExpected e).sample = s.sample := rfl
@[simp] theorem State.setExpected_rendered (e : Byte) (s : State) : (s.setExpected e).rendered = s.rendered := rfl
@[simp] theorem State.setExpected_inCall (e : Byte) (s : State) : (s.setExpected e).inCall = s.inCall := rfl
@[simp] theorem State.setExpected_hostCalls (e : Byte) (s : State) : (s.setExpected e).hostCalls = s.hostCalls := rfl
@[simp] theorem State.setExpected_results (e : Byte) (s : State) : (s.setExpected e).results = s.results := rfl
@[simp] theorem State.setExpected_session (e : Byte) (s : State) : (s.setExpected e).session = s.session := rfl
@[simp] theorem State.setExpected_cfg (e : Byte) (s : State) : (s.setExpected e).cfg = s.cfg := rfl

/-! ### State.appendTx -/

@[simp] theorem State.appendTx_rxState (F : List Byte) (s : State) : (s.appendTx F).rxState = s.rxState := rfl
@[simp] theorem State.appendTx_rxCnt (F : List Byte) (s : State) : (s.appendTx F).rxCnt = s.rxCnt := rfl
@[simp] theorem State.appendTx_rxType (F : List Byte) (s : State) : (s.appendTx F).rxType = s.rxType := rfl
@[simp] theorem State.appendTx_rxLen (F : List Byte) (s : State) : (s.appendTx F).rxLen = s.rxLen := rfl
@[simp] theorem State.appendTx_rxSum (F : List Byte) (s : State) : (s.appendTx F).rxSum = s.rxSum := rfl
@[simp] theorem State.appendTx_rxCsum (F : List Byte) (s : State) : (s.appendTx F).rxCsum = s.rxCsum := rfl
@[simp] theorem State.appendTx_rxBuf (F : List Byte) (s : State) : (s.appendTx F).rxBuf = s.rxBuf := rfl
@[simp] theorem State.appendTx_expectedType (F : List Byte) (s : State) : (s.appendTx F).expectedType = s.expectedType := rfl
@[simp] theorem State.appendTx_event (F : List Byte) (s : State) : (s.appendTx F).event = s.event := rfl
@[simp] theorem State.appendTx_rxStream (F : List Byte) (s : State) : (s.appendTx F).rxStream = s.rxStream := rfl
@[simp] theorem State.appendTx_txStream (F : List Byte) (s : State) : (s.appendTx F).txStream = s.txStream ++ F := rfl
@[simp] theorem State.appendTx_writeTimeouts (F : List Byte) (s : State) : (s.appendTx F).writeTimeouts = s.writeTimeouts := rfl
@[simp] theorem State.appendTx_timedOutWrites (F : List Byte) (s : State) : (s.appendTx F).timedOutWrites = s.timedOutWrites := rfl
@[simp] theorem State.appendTx_sdecRegs (F : List Byte) (s : State) : (s.appendTx F).sdecRegs = s.sdecRegs := rfl
@[simp] theorem State.appendTx_sample (F : List Byte) (s : State) : (s.appendTx F).sample = s.sample := rfl
@[simp] theorem State.appendTx_rendered (F : List Byte) (s : State) : (s.appendTx F).rendered = s.rendered := rfl
@[simp] theorem State.appendTx_inCall (F : List Byte) (s : State) : (s.appendTx F).inCall = s.inCall := rfl
@[simp] theorem State.appendTx_hostCalls (F : List Byte) (s : State) : (s.appendTx F).hostCalls = s.hostCalls := rfl
@[simp] theorem State.appendTx_results (F : List Byte) (s : State) : (s.appendTx F).results = s.results := rfl
@[simp] theorem State.appendTx_session (F : List Byte) (s : State) : (s.appendTx F).session = s.session := rfl
@[simp] theorem State.appendTx_cfg (F : List Byte) (s : State) : (s.appendTx F).cfg = s.cfg := rfl

/-! ### State.addResult -/

@[simp] theorem State.addResult_rxState (r : Result) (s : State) : (s.addResult r).rxState = s.rxState := rfl
@[simp] theorem State.addResult_rxCnt (r : Result) (s : State) : (s.addResult r).rxCnt = s.rxCnt := rfl
@[simp] theorem State.addResult_rxType (r : Result) (s : State) : (s.addResult r).rxType = s.rxType := rfl
@[simp] theorem State.addResult_rxLen (r : Result) (s : State) : (s.addResult r).rxLen = s.rxLen := rfl
@[simp] theorem State.addResult_rxSum (r : Result) (s : State) : (s.addResult r).rxSum = s.rxSum := rfl
@[simp] theorem State.addResult_rxCsum (r : Result) (s : State) : (s.addResult r).rxCsum = s.rxCsum := rfl
@[simp] theorem State.addResult_rxBuf (r : Result) (s : State) : (s.addResult r).rxBuf = s.rxBuf := rfl
@[simp] theorem State.addResult_expectedType (r : Result) (s : State) : (s.addResult r).expectedType = s.expectedType := rfl
@[simp] theorem State.addResult_event (r : Result) (s : State) : (s.addResult r).event = s.event := rfl
@[simp] theorem State.addResult_rxStream (r : Result) (s : State) : (s.addResult r).rxStream = s.rxStream := rfl
@[simp] theorem State.addResult_txStream (r : Result) (s : State) : (s.addResult r).txStream = s.txStream := rfl
@[simp] theorem State.addResult_writeTimeouts (r : Result) (s : State) : (s.addResult r).writeTimeouts = s.writeTimeouts := rfl
@[simp] theorem State.addResult_timedOutWrites (r : Result) (s : State) : (s.addResult r).timedOutWrites = s.timedOutWrites := rfl
@[simp] theorem State.addResult_sdecRegs (r : Result) (s : State) : (s.addResult r).sdecRegs = s.sdecRegs := rfl
@[simp] theorem State.addResult_sample (r : Result) (s : State) : (s.addResult r).sample = s.sample := rfl
@[simp] theorem State.addResult_rendered (r : Result) (s : State) : (s.addResult r).rendered = s.rendered := rfl
@[simp] theorem State.addResult_inCall (r : Result) (s : State) : (s.addResult r).inCall = s.inCall := rfl
@[simp] theorem State.addResult_hostCalls (r : Result) (s : State) : (s.addResult r).hostCalls = s.hostCalls := rfl
@[simp] theorem State.addResult_results (r : Result) (s : State) : (s.addResult r).results = s.results ++ [r] := rfl
@[simp] theorem State.addResult_session (r : Result) (s : State) : (s.addResult r).session = s.session := rfl
@[simp] theorem State.addResult_cfg (r : Result) (s : State) : (s.addResult r).cfg = s.cfg := rfl

/-! ### State.leaveCall -/

@[simp] theorem State.leaveCall_rxState (s : State) : (s.leaveCall).rxState = s.rxState := rfl
@[simp] theorem State.leaveCall_rxCnt (s : State) : (s.leaveCall).rxCnt = s.rxCnt := rfl
@[simp] theorem State.leaveCall_rxType (s : State) : (s.leaveCall).rxType = s.rxType := rfl
@[simp] theorem State.leaveCall_rxLen (s : State) : (s.leaveCall).rxLen = s.rxLen := rfl
@[simp] theorem State.leaveCall_rxSum (s : State) : (s.leaveCall).rxSum = s.rxSum := rfl
@[simp] theorem State.leaveCall_rxCsum (s : State) : (s.leaveCall).rxCsum = s.rxCsum := rfl
@[simp] theorem State.leaveCall_rxBuf (s : State) : (s.leaveCall).rxBuf = s.rxBuf := rfl
@[simp] theorem State.leaveCall_expectedType (s : State) : (s.leaveCall).expectedType = s.expectedType := rfl
@[simp] theorem State.leaveCall_event (s : State) : (s.leaveCall).event = s.event := rfl
@[simp] theorem State.leaveCall_rxStream (s : State) : (s.leaveCall).rxStream = s.rxStream := rfl
@[simp] theorem State.leaveCall_txStream (s : State) : (s.leaveCall).txStream = s.txStream := rfl
@[simp] theorem State.leaveCall_writeTimeouts (s : State) : (s.leaveCall).writeTimeouts = s.writeTimeouts := rfl
@[simp] theorem State.leaveCall_timedOutWrites (s : State) : (s.leaveCall).timedOutWrites = s.timedOutWrites := rfl
@[simp] theorem State.leaveCall_sdecRegs (s : State) : (s.leaveCall).sdecRegs = s.sdecRegs := rfl
@[simp] theorem State.leaveCall_sample (s : State) : (s.leaveCall).sample = s.sample := rfl
@[simp] theorem State.leaveCall_rendered (s : State) : (s.leaveCall).rendered = s.rendered := rfl
@[simp] theorem State.leaveCall_inCall (s : State) : (s.leaveCall).inCall = false := rfl
@[simp] theorem State.leaveCall_hostCalls (s : State) : (s.leaveCall).hostCalls = s.hostCalls := rfl
@[simp] theorem State.leaveCall_results (s : State) : (s.leaveCall).results = s.results := rfl
@[simp] theorem State.leaveCall_session (s : State) : (s.leaveCall).session = s.session := rfl
@[simp] theorem State.leaveCall_cfg (s : State) : (s.leaveCall).cfg = s.cfg := rfl

/-! ### State.setSession -/

@[simp] theorem State.setSession_rxState (ss : Session) (s : State) : (s.setSession ss).rxState = s.rxState := rfl
@[simp] theorem State.setSession_rxCnt (ss : Session) (s : State) : (s.setSession ss).rxCnt = s.rxCnt := rfl
@[simp] theorem State.setSession_rxType (ss : Session) (s : State) : (s.setSession ss).rxType = s.rxType := rfl
@[simp] theorem State.setSession_rxLen (ss : Session) (s : State) : (s.setSession ss).rxLen = s.rxLen := rfl
@[simp] theorem State.setSession_rxSum (ss : Session) (s : State) : (s.setSession ss).rxSum = s.rxSum := rfl
@[simp] theorem State.setSession_rxCsum (ss : Session) (s : State) : (s.setSession ss).rxCsum = s.rxCsum := rfl
@[simp] theorem State.setSession_rxBuf (ss : Session) (s : State) : (s.setSession ss).rxBuf = s.rxBuf := rfl
@[simp] theorem State.setSession_expectedType (ss : Session) (s : State) : (s.setSession ss).expectedType = s.expectedType := rfl
@[simp] theorem State.setSession_event (ss : Session) (s : State) : (s.setSession ss).event = s.event := rfl
@[simp] theorem State.setSession_rxStream (ss : Session) (s : State) : (s.setSession ss).rxStream = s.rxStream := rfl
@[simp] theorem State.setSession_txStream (ss : Session) (s : State) : (s.setSession ss).txStream = s.txStream := rfl
@[simp] theorem State.setSession_writeTimeouts (ss : Session) (s : State) : (s.setSession ss).writeTimeouts = s.writeTimeouts := rfl
@[simp] theorem State.setSession_timedOutWrites (ss : Session) (s : State) : (s.setSession ss).timedOutWrites = s.timedOutWrites := rfl
@[simp] theorem State.setSession_sdecRegs (ss : Session) (s : State) : (s.setSession ss).sdecRegs = s.sdecRegs := rfl
@[simp] theorem State.setSession_sample (ss : Session) (s : State) : (s.setSession ss).sample = s.sample := rfl
@[simp] theorem State.setSession_rendered (ss : Session) (s : State) : (s.setSession ss).rendered = s.rendered := rfl
@[simp] theorem State.setSession_inCall (ss : Session) (s : State) : (s.setSession ss).inCall = s.inCall := rfl
@[simp] theorem State.setSession_hostCalls (ss : Session) (s : State) : (s.setSession ss).hostCalls = s.hostCalls := rfl
@[simp] theorem State.setSession_results (ss : Session) (s : State) : (s.setSession ss).results = s.results := rfl
@[simp] theorem State.setSession_session (ss : Session) (s : State) : (s.setSession ss).session = ss := rfl
@[simp] theorem State.setSession_cfg (ss : Session) (s : State) : (s.setSession ss).cfg = s.cfg := rfl

/-! ### State.setStream -/

@[simp] theorem State.setStream_rxState (xs : List RxItem) (s : State) : (s.setStream xs).rxState = s.rxState := rfl
@[simp] theorem State.setStream_rxCnt (xs : List RxItem) (s : State) : (s.setStream xs).rxCnt = s.rxCnt := rfl
@[simp] theorem State.setStream_rxType (xs : List RxItem) (s : State) : (s.setStream xs).rxType = s.rxType := rfl
@[simp] theorem State.setStream_rxLen (xs : List RxItem) (s : State) : (s.setStream xs).rxLen = s.rxLen := rfl
@[simp] theorem State.setStream_rxSum (xs : List RxItem) (s : State) : (s.setStream xs).rxSum = s.rxSum := rfl
@[simp] theorem State.setStream_rxCsum (xs : List RxItem) (s : State) : (s.setStream xs).rxCsum = s.rxCsum := rfl
@[simp] theorem State.setStream_rxBuf (xs : List RxItem) (s : State) : (s.setStream xs).rxBuf = s.rxBuf := rfl
@[simp] theorem State.setStream_expectedType (xs : List RxItem) (s : State) : (s.setStream xs).expectedType = s.expectedType := rfl
@[simp] theorem State.setStream_event (xs : List RxItem) (s : State) : (s.setStream xs).event = s.event := rfl
@[simp] theorem State.setStream_rxStream (xs : List RxItem) (s : State) : (s.setStream xs).rxStream = xs := rfl
@[simp] theorem State.setStream_txStream (xs : List RxItem) (s : State) : (s.setStream xs).txStream = s.txStream := rfl
@[simp] theorem State.setStream_writeTimeouts (xs : List RxItem) (s : State) : (s.setStream xs).writeTimeouts = s.writeTimeouts := rfl
@[simp] theorem State.setStream_timedOutWrites (xs : List RxItem) (s : State) : (s.setStream xs).timedOutWrites = s.timedOutWrites := rfl
@[simp] theorem State.setStream_sdecRegs (xs : List RxItem) (s : State) : (s.setStream xs).sdecRegs = s.sdecRegs := rfl
@[simp] theorem State.setStream_sample (xs : List RxItem) (s : State) : (s.setStream xs).sample = s.sample := rfl
@[simp] theorem State.setStream_rendered (xs : List RxItem) (s : State) : (s.setStream xs).rendered = s.rendered := rfl
@[simp] theorem State.setStream_inCall (xs : List RxItem) (s : State) : (s.setStream xs).inCall = s.inCall := rfl
@[simp] theorem State.setStream_hostCalls (xs : List RxItem) (s : State) : (s.setStream xs).hostCalls = s.hostCalls := rfl
@[simp] theorem State.setStream_results (xs : List RxItem) (s : State) : (s.setStream xs).results = s.results := rfl
@[simp] theorem State.setStream_session (xs : List RxItem) (s : State) : (s.setStream xs).session = s.session := rfl
@[simp] theorem State.setStream_cfg (xs : List RxItem) (s : State) : (s.setStream xs).cfg = s.cfg := rfl

/-! ### State.setCalls -/

@[simp] theorem State.setCalls_rxState (cs : List HostCall) (s : State) : (s.setCalls cs).rxState = s.rxState := rfl
@[simp] theorem State.setCalls_rxCnt (cs : List HostCall) (s : State) : (s.setCalls cs).rxCnt = s.rxCnt := rfl
@[simp] theorem State.setCalls_rxType (cs : List HostCall) (s : State) : (s.setCalls cs).rxType = s.rxType := rfl
@[simp] theorem State.setCalls_rxLen (cs : List HostCall) (s : State) : (s.setCalls cs).rxLen = s.rxLen := rfl
@[simp] theorem State.setCalls_rxSum (cs : List HostCall) (s : State) : (s.setCalls cs).rxSum = s.rxSum := rfl
@[simp] theorem State.setCalls_rxCsum (cs : List HostCall) (s : State) : (s.setCalls cs).rxCsum = s.rxCsum := rfl
@[simp] theorem State.setCalls_rxBuf (cs : List HostCall) (s : State) : (s.setCalls cs).rxBuf = s.rxBuf := rfl
@[simp] theorem State.setCalls_expectedType (cs : List HostCall) (s : State) : (s.setCalls cs).expectedType = s.expectedType := rfl
@[simp] theorem State.setCalls_event (cs : List HostCall) (s : State) : (s.setCalls cs).event = s.event := rfl
@[simp] theorem State.setCalls_rxStream (cs : List HostCall) (s : State) : (s.setCalls cs).rxStream = s.rxStream := rfl
@[simp] theorem State.setCalls_txStream (cs : List HostCall) (s : State) : (s.setCalls cs).txStream = s.txStream := rfl
@[simp] theorem State.setCalls_writeTimeouts (cs : List HostCall) (s : State) : (s.setCalls cs).writeTimeouts = s.writeTimeouts := rfl
@[simp] theorem State.setCalls_timedOutWrites (cs : List HostCall) (s : State) : (s.setCalls cs).timedOutWrites = s.timedOutWrites := rfl
@[simp] theorem State.setCalls_sdecRegs (cs : List HostCall) (s : State) : (s.setCalls cs).sdecRegs = s.sdecRegs := rfl
@[simp] theorem State.setCalls_sample (cs : List HostCall) (s : State) : (s.setCalls cs).sample = s.sample := rfl
@[simp] theorem State.setCalls_rendered (cs : List HostCall) (s : State) : (s.setCalls cs).rendered = s.rendered := rfl
@[simp] theorem State.setCalls_inCall (cs : List HostCall) (s : State) : (s.setCalls cs).inCall = s.inCall := rfl
@[simp] theorem State.setCalls_hostCalls (cs : List HostCall) (s : State) : (s.setCalls cs).hostCalls = cs := rfl
@[simp] theorem State.setCalls_results (cs : List HostCall) (s : State) : (s.setCalls cs).results = s.results := rfl
@[simp] theorem State.setCalls_session (cs : List HostCall) (s : State) : (s.setCalls cs).session = s.session := rfl
@[simp] theorem State.setCalls_cfg (cs : List HostCall) (s : State) : (s.setCalls cs).cfg = s.cfg := rfl

/-! ### State.setMode -/

@[simp] theorem State.setMode_rxState (m : StreamMode) (s : State) : (s.setMode m).rxState = s.rxState := rfl
@[simp] theorem State.setMode_rxCnt (m : StreamMode) (s : State) : (s.setMode m).rxCnt = s.rxCnt := rfl
@[simp] theorem State.setMode_rxType (m : StreamMode) (s : State) : (s.setMode m).rxType = s.rxType := rfl
@[simp] theorem State.setMode_rxLen (m : StreamMode) (s : State) : (s.setMode m).rxLen = s.rxLen := rfl
@[simp] theorem State.setMode_rxSum (m : StreamMode) (s : State) : (s.setMode m).rxSum = s.rxSum := rfl
@[simp] theorem State.setMode_rxCsum (m : StreamMode) (s : State) : (s.setMode m).rxCsum = s.rxCsum := rfl
@[simp] theorem State.setMode_rxBuf (m : StreamMode) (s : State) : (s.setMode m).rxBuf = s.rxBuf := rfl
@[simp] theorem State.setMode_expectedType (m : StreamMode) (s : State) : (s.setMode m).expectedType = s.expectedType := rfl
@[simp] theorem State.setMode_event (m : StreamMode) (s : State) : (s.setMode m).event = s.event := rfl
@[simp] theorem State.setMode_rxStream (m : StreamMode) (s : State) : (s.setMode m).rxStream = s.rxStream := rfl
@[simp] theorem State.setMode_txStream (m : StreamMode) (s : State) : (s.setMode m).txStream = s.txStream := rfl
@[simp] theorem State.setMode_writeTimeouts (m : StreamMode) (s : State) : (s.setMode m).writeTimeouts = s.writeTimeouts := rfl
@[simp] theorem State.setMode_timedOutWrites (m : StreamMode) (s : State) : (s.setMode m).timedOutWrites = s.timedOutWrites := rfl
@[simp] theorem State.setMode_sdecRegs (m : StreamMode) (s : State) : (s.setMode m).sdecRegs = s.sdecRegs := rfl
@[simp] theorem State.setMode_sample (m : StreamMode) (s : State) : (s.setMode m).sample = s.sample := rfl
@[simp] theorem State.setMode_rendered (m : StreamMode) (s : State) : (s.setMode m).rendered = s.rendered := rfl
@[simp] theorem State.setMode_inCall (m : StreamMode) (s : State) : (s.setMode m).inCall = s.inCall := rfl
@[simp] theorem State.setMode_hostCalls (m : StreamMode) (s : State) : (s.setMode m).hostCalls = s.hostCalls := rfl
@[simp] theorem State.setMode_results (m : StreamMode) (s : State) : (s.setMode m).results = s.results := rfl
@[simp] theorem State.setMode_session (m : StreamMode) (s : State) : (s.setMode m).session = { s.session with mode := m } := rfl
@[simp] theorem State.setMode_cfg (m : StreamMode) (s : State) : (s.setMode m).cfg = s.cfg := rfl

/-! ### State.startCalib -/

@[simp] theorem State.startCalib_rxState (s : State) : (s.startCalib).rxState = s.rxState := rfl
@[simp] theorem State.startCalib_rxCnt (s : State) : (s.startCalib).rxCnt = s.rxCnt := rfl
@[simp] theorem State.startCalib_rxType (s : State) : (s.startCalib).rxType = s.rxType := rfl
@[simp] theorem State.startCalib_rxLen (s : State) : (s.startCalib).rxLen = s.rxLen := rfl
@[simp] theorem State.startCalib_rxSum (s : State) : (s.startCalib).rxSum = s.rxSum := rfl
@[simp] theorem State.startCalib_rxCsum (s : State) : (s.startCalib).rxCsum = s.rxCsum := rfl
@[simp] theorem State.startCalib_rxBuf (s : State) : (s.startCalib).rxBuf = s.rxBuf := rfl
@[simp] theorem State.startCalib_expectedType (s : State) : (s.startCalib).expectedType = s.expectedType := rfl
@[simp] theorem State.startCalib_event (s : State) : (s.startCalib).event = s.event := rfl
@[simp] theorem State.startCalib_rxStream (s : State) : (s.startCalib).rxStream = s.rxStream := rfl
@[simp] theorem State.startCalib_txStream (s : State) : (s.startCalib).txStream = s.txStream := rfl
@[simp] theorem State.startCalib_writeTimeouts (s : State) : (s.startCalib).writeTimeouts = s.writeTimeouts := rfl
@[simp] theorem State.startCalib_timedOutWrites (s : State) : (s.startCalib).timedOutWrites = s.timedOutWrites := rfl
@[simp] theorem State.startCalib_sdecRegs (s : State) : (s.startCalib).sdecRegs = s.sdecRegs := rfl
@[simp] theorem State.startCalib_sample (s : State) : (s.startCalib).sample = s.sample := rfl
@[simp] theorem State.startCalib_rendered (s : State) : (s.startCalib).rendered = s.rendered := rfl
@[simp] theorem State.startCalib_inCall (s : State) : (s.startCalib).inCall = s.inCall := rfl
@[simp] theorem State.startCalib_hostCalls (s : State) : (s.startCalib).hostCalls = s.hostCalls := rfl
@[simp] theorem State.startCalib_results (s : State) : (s.startCalib).results = s.results := rfl
@[simp] theorem State.startCalib_session (s : State) : (s.startCalib).session = { s.session with calib := .running [] } := rfl
@[simp] theorem State.startCalib_cfg (s : State) : (s.startCalib).cfg = s.cfg := rfl

/-! ### State.closeSession -/

@[simp] theorem State.closeSession_rxState (s : State) : (s.closeSession).rxState = s.rxState := rfl
@[simp] theorem State.closeSession_rxCnt (s : State) : (s.closeSession).rxCnt = s.rxCnt := rfl
@[simp] theorem State.closeSession_rxType (s : State) : (s.closeSession).rxType = s.rxType := rfl
@[simp] theorem State.closeSession_rxLen (s : State) : (s.closeSession).rxLen = s.rxLen := rfl
@[simp] theorem State.closeSession_rxSum (s : State) : (s.closeSession).rxSum = s.rxSum := rfl
@[simp] theorem State.closeSession_rxCsum (s : State) : (s.closeSession).rxCsum = s.rxCsum := rfl
@[simp] theorem State.closeSession_rxBuf (s : State) : (s.closeSession).rxBuf = s.rxBuf := rfl
@[simp] theorem State.closeSession_expectedType (s : State) : (s.closeSession).expectedType = s.expectedType := rfl
@[simp] theorem State.closeSession_event (s : State) : (s.closeSession).event = s.event := rfl
@[simp] theorem State.closeSession_rxStream (s : State) : (s.closeSession).rxStream = s.rxStream := rfl
@[simp] theorem State.closeSession_txStream (s : State) : (s.closeSession).txStream = s.txStream := rfl
@[simp] theorem State.closeSession_writeTimeouts (s : State) : (s.closeSession).writeTimeouts = s.writeTimeouts := rfl
@[simp] theorem State.closeSession_timedOutWrites (s : State) : (s.closeSession).timedOutWrites = s.timedOutWrites := rfl
@[simp] theorem State.closeSession_sdecRegs (s : State) : (s.closeSession).sdecRegs = s.sdecRegs := rfl
@[simp] theorem State.closeSession_sample (s : State) : (s.closeSession).sample = s.sample := rfl
@[simp] theorem State.closeSession_rendered (s : State) : (s.closeSession).rendered = s.rendered := rfl
@[simp] theorem State.closeSession_inCall (s : State) : (s.closeSession).inCall = s.inCall := rfl
@[simp] theorem State.closeSession_hostCalls (s : State) : (s.closeSession).hostCalls = s.hostCalls := rfl
@[simp] theorem State.closeSession_results (s : State) : (s.closeSession).results = s.results := rfl
@[simp] theorem State.closeSession_session (s : State) : (s.closeSession).session = { s.session with isOpen := false } := rfl
@[simp] theorem State.closeSession_cfg (s : State) : (s.closeSession).cfg = s.cfg := rfl

/-! ### State.startCall -/

@[simp] theorem State.startCall_rxState (e : Byte) (s : State) : (s.startCall e).rxState = s.rxState := rfl
@[simp] theorem State.startCall_rxCnt (e : Byte) (s : State) : (s.startCall e).rxCnt = s.rxCnt := rfl
@[simp] theorem State.startCall_rxType (e : Byte) (s : State) : (s.startCall e).rxType = s.rxType := rfl
@[simp] theorem State.startCall_rxLen (e : Byte) (s : State) : (s.startCall e).rxLen = s.rxLen := rfl
@[simp] theorem State.startCall_rxSum (e : Byte) (s : State) : (s.startCall e).rxSum = s.rxSum := rfl
@[simp] theorem State.startCall_rxCsum (e : Byte) (s : State) : (s.startCall e).rxCsum = s.rxCsum := rfl
@[simp] theorem State.startCall_rxBuf (e : Byte) (s : State) : (s.startCall e).rxBuf = s.rxBuf := rfl
@[simp] theorem State.startCall_expectedType (e : Byte) (s : State) : (s.startCall e).expectedType = e := rfl
@[simp] theorem State.startCall_event (e : Byte) (s : State) : (s.startCall e).event = s.event := rfl
@[simp] theorem State.startCall_rxStream (e : Byte) (s : State) : (s.startCall e).rxStream = s.rxStream := rfl
@[simp] theorem State.startCall_txStream (e : Byte) (s : State) : (s.startCall e).txStream = s.txStream := rfl
@[simp] theorem State.startCall_writeTimeouts (e : Byte) (s : State) : (s.startCall e).writeTimeouts = s.writeTimeouts := rfl
@[simp] theorem State.startCall_timedOutWrites (e : Byte) (s : State) : (s.startCall e).timedOutWrites = s.timedOutWrites := rfl
@[simp] theorem State.startCall_sdecRegs (e : Byte) (s : State) : (s.startCall e).sdecRegs = s.sdecRegs := rfl
@[simp] theorem State.startCall_sample (e : Byte) (s : State) : (s.startCall e).sample = s.sample := rfl
@[simp] theorem State.startCall_rendered (e : Byte) (s : State) : (s.startCall e).rendered = s.rendered := rfl
@[simp] theorem State.startCall_inCall (e : Byte) (s : State) : (s.startCall e).inCall = true := rfl
@[simp] theorem State.startCall_hostCalls (e : Byte) (s : State) : (s.startCall e).hostCalls = s.hostCalls := rfl
@[simp] theorem State.startCall_results (e : Byte) (s : State) : (s.startCall e).results = s.results := rfl
@[simp] theorem State.startCall_session (e : Byte) (s : State) : (s.startCall e).session = s.session := rfl
@[simp] theorem State.startCall_cfg (e : Byte) (s : State) : (s.startCall e).cfg = s.cfg := rfl

/-! ### State.latchLen -/

@[simp] theorem State.latchLen_rxState (b : Byte) (s : State) : (s.latchLen b).rxState = s.rxState := rfl
@[simp] theorem State.latchLen_rxCnt (b : Byte) (s : State) : (s.latchLen b).rxCnt = 0 := rfl
@[simp] theorem State.latchLen_rxType (b : Byte) (s : State) : (s.latchLen b).rxType = s.rxType := rfl
@[simp] theorem State.latchLen_rxLen (b : Byte) (s : State) : (s.latchLen b).rxLen = b := rfl
@[simp] theorem State.latchLen_rxSum (b : Byte) (s : State) : (s.latchLen b).rxSum = s.rxSum + b := rfl
@[simp] theorem State.latchLen_rxCsum (b : Byte) (s : State) : (s.latchLen b).rxCsum = s.rxCsum := rfl
@[simp] theorem State.latchLen_rxBuf (b : Byte) (s : State) : (s.latchLen b).rxBuf = s.rxBuf := rfl
@[simp] theorem State.latchLen_expectedType (b : Byte) (s : State) : (s.latchLen b).expectedType = s.expectedType := rfl
@[simp] theorem State.latchLen_event (b : Byte) (s : State) : (s.latchLen b).event = s.event := rfl
@[simp] theorem State.latchLen_rxStream (b : Byte) (s : State) : (s.latchLen b).rxStream = s.rxStream := rfl
@[simp] theorem State.latchLen_txStream (b : Byte) (s : State) : (s.latchLen b).txStream = s.txStream := rfl
@[simp] theorem State.latchLen_writeTimeouts (b : Byte) (s : State) : (s.latchLen b).writeTimeouts = s.writeTimeouts := rfl
@[simp] theorem State.latchLen_timedOutWrites (b : Byte) (s : State) : (s.latchLen b).timedOutWrites = s.timedOutWrites := rfl
@[simp] theorem State.latchLen_sdecRegs (b : Byte) (s : State) : (s.latchLen b).sdecRegs = s.sdecRegs := rfl
@[simp] theorem State.latchLen_sample (b : Byte) (s : State) : (s.latchLen b).sample = s.sample := rfl
@[simp] theorem State.latchLen_rendered (b : Byte) (s : State) : (s.latchLen b).rendered = s.rendered := rfl
@[simp] theorem State.latchLen_inCall (b : Byte) (s : State) : (s.latchLen b).inCall = s.inCall := rfl
@[simp] theorem State.latchLen_hostCalls (b : Byte) (s : State) : (s.latchLen b).hostCalls = s.hostCalls := rfl
@[simp] theorem State.latchLen_results (b : Byte) (s : State) : (s.latchLen b).results = s.results := rfl
@[simp] theorem State.latchLen_session (b : Byte) (s : State) : (s.latchLen b).session = s.session := rfl
@[simp] theorem State.latchLen_cfg (b : Byte) (s : State) : (s.latchLen b).cfg = s.cfg := rfl

/-! ### State.setSample -/

@[simp] theorem State.setSample_rxState (r : SdecRegs) (s : State) : (s.setSample r).rxState = s.rxState := rfl
@[simp] theorem State.setSample_rxCnt (r : SdecRegs) (s : State) : (s.setSample r).rxCnt = s.rxCnt := rfl
@[simp] theorem State.setSample_rxType (r : SdecRegs) (s : State) : (s.setSample r).rxType = s.rxType := rfl
@[simp] theorem State.setSample_rxLen (r : SdecRegs) (s : State) : (s.setSample r).rxLen = s.rxLen := rfl
@[simp] theorem State.setSample_rxSum (r : SdecRegs) (s : State) : (s.setSample r).rxSum = s.rxSum := rfl
@[simp] theorem State.setSample_rxCsum (r : SdecRegs) (s : State) : (s.setSample r).rxCsum = s.rxCsum := rfl
@[simp] theorem State.setSample_rxBuf (r : SdecRegs) (s : State) : (s.setSample r).rxBuf = s.rxBuf := rfl
@[simp] theorem State.setSample_expectedType (r : SdecRegs) (s : State) : (s.setSample r).expectedType = s.expectedType := rfl
@[simp] theorem State.setSample_event (r : SdecRegs) (s : State) : (s.setSample r).event = s.event := rfl
@[simp] theorem State.setSample_rxStream (r : SdecRegs) (s : State) : (s.setSample r).rxStream = s.rxStream := rfl
@[simp] theorem State.setSample_txStream (r : SdecRegs) (s : State) : (s.setSample r).txStream = s.txStream := rfl
@[simp] theorem State.setSample_writeTimeouts (r : SdecRegs) (s : State) : (s.setSample r).writeTimeouts = s.writeTimeouts := rfl
@[simp] theorem State.setSample_timedOutWrites (r : SdecRegs) (s : State) : (s.setSample r).timedOutWrites = s.timedOutWrites := rfl
@[simp] theorem State.setSample_sdecRegs (r : SdecRegs) (s : State) : (s.setSample r).sdecRegs = some r := rfl
@[simp] theorem State.setSample_sample (r : SdecRegs) (s : State) : (s.setSample r).sample = some (buildSample exactNumerics s.cfg.jointOrder r) := rfl
@[simp] theorem State.setSample_inCall (r : SdecRegs) (s : State) : (s.setSample r).inCall = s.inCall := rfl
@[simp] theorem State.setSample_hostCalls (r : SdecRegs) (s : State) : (s.setSample r).hostCalls = s.hostCalls := rfl
@[simp] theorem State.setSample_results (r : SdecRegs) (s : State) : (s.setSample r).results = s.results ++ [.sample (buildSample exactNumerics s.cfg.jointOrder r)] := rfl
@[simp] theorem State.setSample_session (r : SdecRegs) (s : State) : (s.setSample r).session = s.session := rfl
@[simp] theorem State.setSample_cfg (r : SdecRegs) (s : State) : (s.setSample r).cfg = s.cfg := rfl

/-! ### State.setSeq -/

@[simp] theorem State.setSeq_rxState (q : Option HostSeq) (s : State) : (s.setSeq q).rxState = s.rxState := rfl
@[simp] theorem State.setSeq_rxCnt (q : Option HostSeq) (s : State) : (s.setSeq q).rxCnt = s.rxCnt := rfl
@[simp] theorem State.setSeq_rxType (q : Option HostSeq) (s : State) : (s.setSeq q).rxType = s.rxType := rfl
@[simp] theorem State.setSeq_rxLen (q : Option HostSeq) (s : State) : (s.setSeq q).rxLen = s.rxLen := rfl
@[simp] theorem State.setSeq_rxSum (q : Option HostSeq) (s : State) : (s.setSeq q).rxSum = s.rxSum := rfl
@[simp] theorem State.setSeq_rxCsum (q : Option HostSeq) (s : State) : (s.setSeq q).rxCsum = s.rxCsum := rfl
@[simp] theorem State.setSeq_rxBuf (q : Option HostSeq) (s : State) : (s.setSeq q).rxBuf = s.rxBuf := rfl
@[simp] theorem State.setSeq_expectedType (q : Option HostSeq) (s : State) : (s.setSeq q).expectedType = s.expectedType := rfl
@[simp] theorem State.setSeq_event (q : Option HostSeq) (s : State) : (s.setSeq q).event = s.event := rfl
@[simp] theorem State.setSeq_rxStream (q : Option HostSeq) (s : State) : (s.setSeq q).rxStream = s.rxStream := rfl
@[simp] theorem State.setSeq_txStream (q : Option HostSeq) (s : State) : (s.setSeq q).txStream = s.txStream := rfl
@[simp] theorem State.setSeq_writeTimeouts (q : Option HostSeq) (s : State) : (s.setSeq q).writeTimeouts = s.writeTimeouts := rfl
@[simp] theorem State.setSeq_timedOutWrites (q : Option HostSeq) (s : State) : (s.setSeq q).timedOutWrites = s.timedOutWrites := rfl
@[simp] theorem State.setSeq_sdecRegs (q : Option HostSeq) (s : State) : (s.setSeq q).sdecRegs = s.sdecRegs := rfl
@[simp] theorem State.setSeq_sample (q : Option HostSeq) (s : State) : (s.setSeq q).sample = s.sample := rfl
@[simp] theorem State.setSeq_rendered (q : Option HostSeq) (s : State) : (s.setSeq q).rendered = s.rendered := rfl
@[simp] theorem State.setSeq_inCall (q : Option HostSeq) (s : State) : (s.setSeq q).inCall = s.inCall := rfl
@[simp] theorem State.setSeq_hostCalls (q : Option HostSeq) (s : State) : (s.setSeq q).hostCalls = s.hostCalls := rfl
@[simp] theorem State.setSeq_results (q : Option HostSeq) (s : State) : (s.setSeq q).results = s.results := rfl
@[simp] theorem State.setSeq_session (q : Option HostSeq) (s : State) : (s.setSeq q).session = { s.session with seq := q } := rfl
@[simp] theorem State.setSeq_cfg (q : Option HostSeq) (s : State) : (s.setSeq q).cfg = s.cfg := rfl

/-! ### State.nextWrite -/

@[simp] theorem State.nextWrite_rxState (s : State) : (s.nextWrite).rxState = s.rxState := rfl
@[simp] theorem State.nextWrite_rxCnt (s : State) : (s.nextWrite).rxCnt = s.rxCnt := rfl
@[simp] theorem State.nextWrite_rxType (s : State) : (s.nextWrite).rxType = s.rxType := rfl
@[simp] theorem State.nextWrite_rxLen (s : State) : (s.nextWrite).rxLen = s.rxLen := rfl
@[simp] theorem State.nextWrite_rxSum (s : State) : (s.nextWrite).rxSum = s.rxSum := rfl
@[simp] theorem State.nextWrite_rxCsum (s : State) : (s.nextWrite).rxCsum = s.rxCsum := rfl
@[simp] theorem State.nextWrite_rxBuf (s : State) : (s.nextWrite).rxBuf = s.rxBuf := rfl
@[simp] theorem State.nextWrite_expectedType (s : State) : (s.nextWrite).expectedType = s.expectedType := rfl
@[simp] theorem State.nextWrite_event (s : State) : (s.nextWrite).event = s.event := rfl
@[simp] theorem State.nextWrite_rxStream (s : State) : (s.nextWrite).rxStream = s.rxStream := rfl
@[simp] theorem State.nextWrite_txStream (s : State) : (s.nextWrite).txStream = s.txStream := rfl
@[simp] theorem State.nextWrite_writeTimeouts (s : State) : (s.nextWrite).writeTimeouts = s.writeTimeouts.tail := rfl
@[simp] theorem State.nextWrite_timedOutWrites (s : State) : (s.nextWrite).timedOutWrites = s.timedOutWrites := rfl
@[simp] theorem State.nextWrite_sdecRegs (s : State) : (s.nextWrite).sdecRegs = s.sdecRegs := rfl
@[simp] theorem State.nextWrite_sample (s : State) : (s.nextWrite).sample = s.sample := rfl
@[simp] theorem State.nextWrite_rendered (s : State) : (s.nextWrite).rendered = s.rendered := rfl
@[simp] theorem State.nextWrite_inCall (s : State) : (s.nextWrite).inCall = s.inCall := rfl
@[simp] theorem State.nextWrite_hostCalls (s : State) : (s.nextWrite).hostCalls = s.hostCalls := rfl
@[simp] theorem State.nextWrite_results (s : State) : (s.nextWrite).results = s.results := rfl
@[simp] theorem State.nextWrite_session (s : State) : (s.nextWrite).session = s.session := rfl
@[simp] theorem State.nextWrite_cfg (s : State) : (s.nextWrite).cfg = s.cfg := rfl

/-! ### State.timeOutWrite -/

@[simp] theorem State.timeOutWrite_rxState (F : List Byte) (s : State) : (s.timeOutWrite F).rxState = s.rxState := rfl
@[simp] theorem State.timeOutWrite_rxCnt (F : List Byte) (s : State) : (s.timeOutWrite F).rxCnt = s.rxCnt := rfl
@[simp] theorem State.timeOutWrite_rxType (F : List Byte) (s : State) : (s.timeOutWrite F).rxType = s.rxType := rfl
@[simp] theorem State.timeOutWrite_rxLen (F : List Byte) (s : State) : (s.timeOutWrite F).rxLen = s.rxLen := rfl
@[simp] theorem State.timeOutWrite_rxSum (F : List Byte) (s : State) : (s.timeOutWrite F).rxSum = s.rxSum := rfl
@[simp] theorem State.timeOutWrite_rxCsum (F : List Byte) (s : State) : (s.timeOutWrite F).rxCsum = s.rxCsum := rfl
@[simp] theorem State.timeOutWrite_rxBuf (F : List Byte) (s : State) : (s.timeOutWrite F).rxBuf = s.rxBuf := rfl
@[simp] theorem State.timeOutWrite_expectedType (F : List Byte) (s : State) : (s.timeOutWrite F).expectedType = s.expectedType := rfl
@[simp] theorem State.timeOutWrite_event (F : List Byte) (s : State) : (s.timeOutWrite F).event = s.event := rfl
@[simp] theorem State.timeOutWrite_rxStream (F : List Byte) (s : State) : (s.timeOutWrite F).rxStream = s.rxStream := rfl
@[simp] theorem State.timeOutWrite_txStream (F : List Byte) (s : State) : (s.timeOutWrite F).txStream = if Config.timedOutWriteLands s.timedOutWrites then s.txStream ++ F else s.txStream := rfl
@[simp] theorem State.timeOutWrite_writeTimeouts (F : List Byte) (s : State) : (s.timeOutWrite F).writeTimeouts = s.writeTimeouts.tail := rfl
@[simp] theorem State.timeOutWrite_timedOutWrites (F : List Byte) (s : State) : (s.timeOutWrite F).timedOutWrites = s.timedOutWrites + 1 := rfl
@[simp] theorem State.timeOutWrite_sdecRegs (F : List Byte) (s : State) : (s.timeOutWrite F).sdecRegs = s.sdecRegs := rfl
@[simp] theorem State.timeOutWrite_sample (F : List Byte) (s : State) : (s.timeOutWrite F).sample = s.sample := rfl
@[simp] theorem State.timeOutWrite_rendered (F : List Byte) (s : State) : (s.timeOutWrite F).rendered = s.rendered := rfl
@[simp] theorem State.timeOutWrite_inCall (F : List Byte) (s : State) : (s.timeOutWrite F).inCall = s.inCall := rfl
@[simp] theorem State.timeOutWrite_hostCalls (F : List Byte) (s : State) : (s.timeOutWrite F).hostCalls = s.hostCalls := rfl
@[simp] theorem State.timeOutWrite_results (F : List Byte) (s : State) : (s.timeOutWrite F).results = s.results ++ [.error (s.session.surfaced false .timeoutError)] := rfl
@[simp] theorem State.timeOutWrite_session (F : List Byte) (s : State) : (s.timeOutWrite F).session = s.session := rfl
@[simp] theorem State.timeOutWrite_cfg (F : List Byte) (s : State) : (s.timeOutWrite F).cfg = s.cfg := rfl

end Sys2Proof.Machine
end

