-- ==== Sys2Proof/Laws/Memory.lean ====
section
/-! SUPPORT. `RX_BUF` (R15): every operation keeps the canonical form, a read after a write, and the copy of a prefix; and
`MemWrite` (R31) inside a sequence. -/

/-- `MemWrite` at an offset that the sequence under construction has reached (R31): no gap. -/
theorem Sys2Proof.memWrite_of_le {P : List Sys2Proof.Byte} {o : Nat} (n v : Nat) (h : o ≤ P.length) :
    memWrite P o n v =
      P.take o ++ (List.range n).map (fun i => BitVec.ofNat 8 (v / 2 ^ (8 * (n - 1 - i)))) ++ P.drop (o + n) := by
  simp [memWrite, Nat.sub_eq_zero_of_le h]

namespace Sys2Proof.Machine

theorem Memory.wfFrom_mono {lo lo' : Nat} (h : lo' ≤ lo) {m : Memory} (hm : Memory.wfFrom lo m = true) :
    Memory.wfFrom lo' m = true := by
  cases m with
  | nil => rfl
  | cons c m =>
    obtain ⟨a, v⟩ := c
    simp only [Memory.wfFrom, Bool.and_eq_true, decide_eq_true_eq] at hm ⊢
    exact ⟨⟨⟨by omega, hm.1.1.2⟩, hm.1.2⟩, hm.2⟩

/-- An offset below the lower bound of a canonical memory is unlisted. -/
theorem Memory.read_of_lt {lo i : Nat} {m : Memory} (hm : Memory.wfFrom lo m = true) (h : i < lo) :
    Memory.read m i = unwrittenByte := by
  induction m generalizing lo with
  | nil => rfl
  | cons c m ih =>
    obtain ⟨a, v⟩ := c
    simp only [Memory.wfFrom, Bool.and_eq_true, decide_eq_true_eq] at hm
    have ha : a ≠ i := by omega
    simp only [Memory.read, if_neg ha]
    exact ih hm.2 (by omega)

theorem Memory.write_wfFrom {lo i : Nat} {v : Byte} {m : Memory} (hm : Memory.wfFrom lo m = true) (hlo : lo ≤ i)
    (hi : i < bufSize) : Memory.wfFrom lo (Memory.write m i v) = true := by
  induction m generalizing lo with
  | nil =>
    by_cases hv : v = unwrittenByte
    · simp [Memory.write, hv, Memory.wfFrom]
    · simp [Memory.write, hv, Memory.wfFrom, hlo, hi]
  | cons c m ih =>
    obtain ⟨a, w⟩ := c
    have hm' := hm
    simp only [Memory.wfFrom, Bool.and_eq_true, decide_eq_true_eq] at hm
    unfold Memory.write
    split
    · split
      · exact hm'
      · rename_i hlt hv
        simp only [Memory.wfFrom, Bool.and_eq_true, decide_eq_true_eq]
        exact ⟨⟨⟨hlo, hi⟩, hv⟩, ⟨⟨by omega, hm.1.1.2⟩, hm.1.2⟩, hm.2⟩
    · split
      · rename_i hge heq
        subst heq
        split
        · exact Memory.wfFrom_mono (by omega) hm.2
        · rename_i hv
          simp only [Memory.wfFrom, Bool.and_eq_true, decide_eq_true_eq]
          exact ⟨⟨⟨hlo, hi⟩, hv⟩, hm.2⟩
      · simp only [Memory.wfFrom, Bool.and_eq_true, decide_eq_true_eq]
        exact ⟨hm.1, ih hm.2 (by omega)⟩

/-- Every write inside `RX_BUF` keeps the canonical form. -/
theorem Memory.write_wf {i : Nat} {v : Byte} {m : Memory} (hm : m.wf = true) (hi : i < bufSize) :
    (Memory.write m i v).wf = true :=
  Memory.write_wfFrom hm (Nat.zero_le _) hi

/-- `RX_BUF` at reset is canonical. -/
theorem Memory.reset_wf : State.reset.rxBuf.wf = true := rfl

theorem Memory.read_write_from {lo i j : Nat} {v : Byte} {m : Memory} (hm : Memory.wfFrom lo m = true) :
    Memory.read (Memory.write m i v) j = if j = i then v else Memory.read m j := by
  induction m generalizing lo with
  | nil =>
    by_cases hv : v = unwrittenByte
    · simp [Memory.write, hv, Memory.read]
    · simp [Memory.write, hv, Memory.read, eq_comm]
  | cons c m ih =>
    obtain ⟨a, w⟩ := c
    have hm' := hm
    simp only [Memory.wfFrom, Bool.and_eq_true, decide_eq_true_eq] at hm
    unfold Memory.write
    split
    · rename_i hlt
      have hbelow : Memory.read ((a, w) :: m) i = unwrittenByte := by
        have ha : a ≠ i := by omega
        simp only [Memory.read, if_neg ha]
        exact Memory.read_of_lt hm.2 (by omega)
      split
      · rename_i hv
        split
        · rename_i hj
          rw [hj, hv, hbelow]
        · rfl
      · conv_lhs => unfold Memory.read
        by_cases hj : j = i
        · simp [hj]
        · simp [hj, Ne.symm hj]
    · split
      · rename_i hge heq
        subst heq
        have hbelow : Memory.read m i = unwrittenByte := Memory.read_of_lt hm.2 (by omega)
        by_cases hj : j = i
        · subst hj
          split
          · rename_i hv
            simp [hv, hbelow]
          · simp [Memory.read]
        · split <;> simp [Memory.read, Ne.symm hj]
      · rename_i hge hne
        simp only [Memory.read]
        rw [ih hm.2]
        by_cases hj : j = i
        · subst hj
          simp [Ne.symm hne]
        · simp [hj]

/-- A read after a write gives the value written, and every other entry is as before. -/
theorem Memory.read_write {i j : Nat} {v : Byte} {m : Memory} (hm : m.wf = true) :
    Memory.read (Memory.write m i v) j = if j = i then v else Memory.read m j :=
  Memory.read_write_from hm

@[simp] theorem Memory.readPrefix_zero (m : Memory) : m.readPrefix 0 = [] := rfl

@[simp] theorem Memory.readPrefix_length (m : Memory) (n : Nat) : (m.readPrefix n).length = n := by
  simp [Memory.readPrefix]

theorem Memory.readPrefix_succ (m : Memory) (n : Nat) : m.readPrefix (n + 1) = m.readPrefix n ++ [m.read n] := by
  simp [Memory.readPrefix, List.range_succ]

/-- One more payload byte: the copy of the prefix grows by it (R70). -/
theorem Memory.readPrefix_write_succ {m : Memory} {n : Nat} {b : Byte} (hm : m.wf = true) :
    (Memory.write m n b).readPrefix (n + 1) = m.readPrefix n ++ [b] := by
  rw [Memory.readPrefix_succ, Memory.read_write hm]
  simp only [if_true]
  congr 1
  apply List.map_congr_left
  intro j hj
  have : j < n := by simpa using hj
  rw [Memory.read_write hm, if_neg (by omega)]

end Sys2Proof.Machine
end

