-- ==== Sys2Proof/Laws/Ops.lean ====
section
/-! SUPPORT. One lemma per shared operation that says all it does; the provers cite these and do not unfold. -/

namespace Sys2Proof.Machine

open Host (Outcome)

/-! ### Raising, delivering, transmitting -/

/-- Only a `TimeoutError` is re-wrapped during connect (R134, N17). -/
@[simp] theorem Session.surfaced_packetError (r : Bool) (c : ErrCause) (ss : Session) :
    ss.surfaced r (.packetError c) = .packetError c := by
  simp [Session.surfaced, Err.duringConnect]

/-- A `TimeoutError` as the host's caller gets it (R133, R134). -/
theorem Session.surfaced_timeoutError (r : Bool) (ss : Session) :
    ss.surfaced r .timeoutError = if ss.connecting then .connectionError r else .timeoutError := rfl

/-- What a failing call changes (R132, R133): nothing when no `DecodeNext` is in progress. -/
theorem State.failCall_eq (e : Err) (s : State) :
    s.failCall e = { s with
      inCall := false
      results := if s.inCall then s.results ++ [.error (s.session.surfaced true e)] else s.results
      session := if s.inCall then { s.session with calib := s.session.calib.onError } else s.session } := by
  by_cases h : s.inCall = true
  · simp [State.failCall, h, State.addResult, State.leaveCall, State.setSession]
  · cases s
    simp_all [State.failCall]

/-- `PacketError` (R132): `HUNT`, the event with its cause, the call returned. -/
theorem raise_packetError (c : ErrCause) (s : State) :
    raise (.packetError c) s = { s with
      rxState := .hunt
      event := .pktErr c
      inCall := false
      results := if s.inCall then s.results ++ [.error (.packetError c)] else s.results
      session := if s.inCall then { s.session with calib := s.session.calib.onError } else s.session } := by
  simp [raise, State.failCall_eq, State.setRxState, State.emit]

/-- `TimeoutError` (R133): `HUNT`, the event, the call returned. -/
theorem raise_timeoutError (s : State) :
    raise .timeoutError s = { s with
      rxState := .hunt
      event := .timeout
      inCall := false
      results := if s.inCall then s.results ++ [.error (s.session.surfaced true .timeoutError)] else s.results
      session := if s.inCall then { s.session with calib := s.session.calib.onError } else s.session } := by
  simp [raise, State.failCall_eq, State.setRxState, State.emit]

/-- `SampleLengthError` (R136) is handed to the host and changes nothing else. -/
theorem raise_sampleLengthError (n : Nat) (s : State) :
    raise (.sampleLengthError n) s = { s with results := s.results ++ [.error (.sampleLengthError n)] } := rfl

/-- `EncodeLengthError` (R137) is handed to the host and changes nothing else. -/
theorem raise_encodeLengthError (n : Nat) (s : State) :
    raise (.encodeLengthError n) s = { s with results := s.results ++ [.error (.encodeLengthError n)] } := rfl

/-- `ACCEPT(t, p)` (R73, R80): `HUNT`, the event, the call returned with the payload, the host's record. -/
theorem deliver_eq (t : Byte) (p : List Byte) (s : State) :
    deliver t p s = { s with
      rxState := .hunt
      event := .accept t p
      inCall := false
      results := if s.inCall then s.results ++ [.payload p] ++ s.session.responseErrors t p else s.results
      session := if s.inCall then s.session.onResponse t p else s.session } := by
  by_cases h : s.inCall = true
  · simp [deliver, h, State.setRxState, State.emit]
  · have h' : s.inCall = false := by simpa using h
    simp [deliver, h', State.setRxState, State.emit]

/-- `ENCODE` of at most 253 bytes whose write completes (R60). -/
theorem transmit_of_le {t : Byte} {p : List Byte} (noted : State → State) {s : State} (h : p.length ≤ 253)
    (hw : s.writeTimeouts.headD false = false) :
    transmit t p noted s = noted { s with
      txStream := s.txStream ++ mkFrame t p
      writeTimeouts := s.writeTimeouts.tail
      results := s.results ++ [.frame (mkFrame t p)] } := by
  simp only [transmit, maxPayload, h, if_true, State.writeTimesOut, hw]
  rfl

/-- `ENCODE` of at most 253 bytes whose write times out (R63, R133). -/
theorem transmit_of_timeout {t : Byte} {p : List Byte} (noted : State → State) {s : State} (h : p.length ≤ 253)
    (hw : s.writeTimeouts.headD false = true) : transmit t p noted s = s.timeOutWrite (mkFrame t p) := by
  simp only [transmit, maxPayload, h, if_true, State.writeTimesOut, hw]

/-- `ENCODE` of more than 253 bytes (R61). -/
theorem transmit_of_gt {t : Byte} {p : List Byte} (noted : State → State) (s : State) (h : 253 < p.length) :
    transmit t p noted s = { s with results := s.results ++ [.error (.encodeLengthError p.length)] } := by
  have : ¬ p.length ≤ 253 := by omega
  simp [transmit, maxPayload, this, raise, State.addResult]

@[simp] theorem mkFrame_length (t : Byte) (p : List Byte) : (mkFrame t p).length = p.length + 5 := by
  simp [mkFrame, frameBody]

/-- `sum8` of a concatenation (R64): accumulating byte by byte modulo 256. -/
theorem sum8_append (a b : List Byte) : sum8 (a ++ b) = sum8 a + sum8 b := by
  induction a with
  | nil => simp [sum8]
  | cons x a ih => simp [sum8, ih, BitVec.add_assoc]

/-! ### The byte steps -/

/-- The byte-step chosen by `RxStep` (R65) is the one the decoder selects. -/
theorem rxStep_eq_exec (b : Byte) (s : State) : rxStep b s = exec (decodeRxByte s.rxState b) s := by
  cases h : s.rxState <;> simp only [rxStep, decodeRxByte, h]
  · split <;> rfl
  all_goals rfl

/-- Everything an RX byte-step can do: a plain state of one of the seven shapes, an error, or a delivery (R66 to R73). -/
theorem rxStep_next_cases {b : Byte} {s s' : State} (h : rxStep b s = .next s') :
    (s.rxState = .hunt ∧ b ≠ startMarker ∧ s' = s.emit .none) ∨
    (s.rxState = .hunt ∧ b = startMarker ∧ s' = { s with rxSum := startMarker, rxState := .type, event := .none }) ∨
    (s.rxState = .type ∧ s' = { s with rxType := b, rxSum := s.rxSum + b, rxState := .len, event := .none }) ∨
    (s.rxState = .len ∧ b.toNat < 2 ∧ s' = raise (.packetError lenBad) (s.latchLen b)) ∨
    (s.rxState = .len ∧ b.toNat = 2 ∧ s' = ((s.latchLen b).setRxState .csum).emit .none) ∨
    (s.rxState = .len ∧ 2 < b.toNat ∧ s' = ((s.latchLen b).setRxState .payload).emit .none) ∨
    (s.rxState = .payload ∧ s.rxCnt.toNat < bufSize ∧ s' = { s with
      rxBuf := Memory.write s.rxBuf s.rxCnt.toNat b
      rxSum := s.rxSum + b
      rxCnt := s.rxCnt + 1
      rxState := if s.rxCnt.toNat + 3 = s.rxLen.toNat then .csum else .payload
      event := .none }) ∨
    (s.rxState = .csum ∧ s' = { s with rxCsum := b, rxState := .endMark, event := .none }) ∨
    (s.rxState = .endMark ∧ endCause s.rxCsum s.rxSum b ≠ 0 ∧ s' = raise (.packetError (endCause s.rxCsum s.rxSum b)) s) ∨
    (s.rxState = .endMark ∧ endCause s.rxCsum s.rxSum b = 0 ∧ s.rxType = s.expectedType ∧ s.rxCnt.toNat ≤ bufSize ∧
      s' = deliver s.rxType s.payloadSoFar s) ∨
    (s.rxState = .endMark ∧ endCause s.rxCsum s.rxSum b = 0 ∧ s.rxType ≠ s.expectedType ∧
      s' = (s.setRxState .hunt).emit .none) := by
  cases hq : s.rxState <;> simp only [rxStep, hq] at h
  · split at h <;> (cases h; simp_all)
  · cases h; simp
  · simp only [execRxLen] at h
    split at h
    · cases h; simp_all
    · split at h
      · cases h; simp_all
      · cases h
        have : 2 < b.toNat := by omega
        simp_all
  · simp only [execRxPayload] at h
    split at h
    · cases h; simp_all
    · cases h
  · cases h; simp
  · simp only [execRxEnd] at h
    split at h
    · cases h; simp_all
    · split at h
      · split at h
        · cases h; simp_all [State.payloadSoFar]
        · cases h
      · cases h; simp_all

theorem SameOutsideRx.refl (s : State) : SameOutsideRx s s := ⟨rfl, rfl, rfl, rfl, rfl, rfl, rfl, rfl, rfl⟩

theorem SameOutsideRx.trans {s t u : State} (h : SameOutsideRx s t) (h' : SameOutsideRx t u) : SameOutsideRx s u := by
  obtain ⟨a, b, c, d, e, f, g, i, j⟩ := h
  obtain ⟨a', b', c', d', e', f', g', i', j'⟩ := h'
  exact ⟨a'.trans a, b'.trans b, c'.trans c, d'.trans d, e'.trans e, f'.trans f, g'.trans g, i'.trans i, j'.trans j⟩

/-- An RX byte-step never transmits and never touches the host's or `SDEC`'s state (R84). -/
theorem rxStep_sameOutsideRx {b : Byte} {s s' : State} (h : rxStep b s = .next s') : SameOutsideRx s s' := by
  rcases rxStep_next_cases h with h | h | h | h | h | h | h | h | h | h | h
  all_goals
    obtain ⟨_, h⟩ := h
    first
      | (subst h; exact ⟨rfl, rfl, rfl, rfl, rfl, rfl, rfl, rfl, rfl⟩)
      | (obtain ⟨_, h⟩ := h
         first
           | (subst h; exact ⟨rfl, rfl, rfl, rfl, rfl, rfl, rfl, rfl, rfl⟩)
           | (rw [raise_packetError] at h; subst h; exact ⟨rfl, rfl, rfl, rfl, rfl, rfl, rfl, rfl, rfl⟩)
           | (obtain ⟨_, h⟩ := h
              first
                | (subst h; exact ⟨rfl, rfl, rfl, rfl, rfl, rfl, rfl, rfl, rfl⟩)
                | (obtain ⟨_, h⟩ := h
                   rw [deliver_eq] at h; subst h; exact ⟨rfl, rfl, rfl, rfl, rfl, rfl, rfl, rfl, rfl⟩)))

/-- An RX byte-step leaves `RX_STREAM` alone: the fetch has already moved past the byte. -/
theorem rxStep_rxStream {b : Byte} {s s' : State} (h : rxStep b s = .next s') : s'.rxStream = s.rxStream := by
  rcases rxStep_next_cases h with h | h | h | h | h | h | h | h | h | h | h
  all_goals
    obtain ⟨_, h⟩ := h
    first
      | (subst h; rfl)
      | (obtain ⟨_, h⟩ := h
         first
           | (subst h; rfl)
           | (rw [raise_packetError] at h; subst h; rfl)
           | (obtain ⟨_, h⟩ := h
              first
                | (subst h; rfl)
                | (obtain ⟨_, h⟩ := h; rw [deliver_eq] at h; subst h; rfl)))

/-! ### Receiving a run of bytes -/

/-- A byte whose step ends nothing: the rest follows. -/
theorem receive_cons_none {b : Byte} {bs : List Byte} {s s' : State} (h : rxStep b s = .next s') (he : s'.event = .none) :
    receive (b :: bs) s = receive bs s' := by
  simp [receive, h, he]

/-- A byte whose step ends the call: the rest stays in `RX_STREAM`. -/
theorem receive_cons_event {b : Byte} {bs : List Byte} {s s' : State} (h : rxStep b s = .next s') (he : s'.event ≠ .none) :
    receive (b :: bs) s = .next (s'.setStream (bs.map RxItem.byte ++ s'.rxStream)) := by
  simp [receive, h, he]

/-- Receiving bytes never transmits and never touches the host's or `SDEC`'s state. -/
theorem receive_sameOutsideRx {F : List Byte} {s s' : State} (h : receive F s = .next s') : SameOutsideRx s s' := by
  induction F generalizing s with
  | nil => cases h; exact SameOutsideRx.refl _
  | cons b bs ih =>
    cases hb : rxStep b s with
    | next u =>
      have hu := rxStep_sameOutsideRx hb
      by_cases he : u.event = .none
      · rw [receive_cons_none hb he] at h
        exact hu.trans (ih h)
      · rw [receive_cons_event hb he] at h
        cases h
        exact hu.trans ⟨rfl, rfl, rfl, rfl, rfl, rfl, rfl, rfl, rfl⟩
    | fault r => simp [receive, hb] at h
    | refused r => simp [receive, hb] at h

end Sys2Proof.Machine
end

