-- ==== Sys2Proof/Laws/PerInstr.lean ====
section
/-! SUPPORT. R126, the summary of lengths, as one law per instruction: a frame kind's encoding has the direction, the type
byte, the length byte and the frame length of its row; a block operation is no frame. -/

namespace Sys2Proof.Laws.FrameRow

open Sys2Proof

/-- The rows of R126: direction, type, payload length. -/
def row : Instr → Option (Dir × Byte × Nat)
  | .smodeQuat => some (.tx, 0x0A, 1)
  | .smodeRaw => some (.tx, 0x0A, 1)
  | .smodeOff => some (.tx, 0x0A, 1)
  | .sampleRaw _ _ _ _ => some (.rx, 0x0A, 91)
  | .sampleQuat _ _ _ _ _ => some (.rx, 0x0A, 87)
  | .stop => some (.tx, 0x0B, 0)
  | .infoReq => some (.tx, 0x0C, 0)
  | .infoRsp _ _ _ _ _ _ _ _ => some (.rx, 0x0C, 18)
  | .setidReq _ => some (.tx, 0x0D, 2)
  | .setidRsp _ => some (.rx, 0x0D, 2)
  | .reboot => some (.tx, 0x0E, 0)
  | .labelGet => some (.tx, 0x11, 0)
  | .labelSet _ => some (.tx, 0x11, 16)
  | .labelRsp _ => some (.rx, 0x11, 16)
  | .fwverReq => some (.tx, 0x13, 0)
  | .fwverRsp _ _ _ => some (.rx, 0x13, 3)
  | .calibStart => some (.tx, 0x31, 0)
  | .calibStage _ => some (.rx, 0x31, 1)
  | .poweroff => some (.tx, 0x40, 0)
  | .vibro _ _ _ _ _ _ => some (.tx, 0x60, 6)
  | .encode _ _ => none
  | .rxDiscard _ => none
  | .rxSof => none
  | .rxType _ => none
  | .rxLen _ => none
  | .rxPayload _ => none
  | .rxCsum _ => none
  | .rxEnd _ => none
  | .abort => none
  | .sdecRaw _ => none
  | .sdecQuat _ => none

/-- The packet is a frame of the row's direction, type byte, length byte and length. -/
def HasRow (pk : Packet) (d : Dir) (t : Byte) (n : Nat) : Prop :=
  ∃ F, pk = .frame d F ∧ F.length = n + 5 ∧ F[1]? = some t ∧ F[2]? = some (BitVec.ofNat 8 (n + 2))

/-- R126 for one instruction. -/
def Statement (i : Instr) : Prop :=
  match row i with
  | some (d, t, n) => HasRow (encode i) d t n
  | none => ∀ d F, encode i ≠ .frame d F

theorem hasRow_mkFrame (d : Dir) (t : Byte) {p : List Byte} {n : Nat} (h : p.length = n) :
    HasRow (.frame d (mkFrame t p)) d t n :=
  ⟨mkFrame t p, rfl, by simp [h], by simp [mkFrame, frameBody], by simp [mkFrame, frameBody, h]⟩

theorem bytes16_flatMap_length (l : List Half) : (l.flatMap bytes16).length = 2 * l.length := by
  induction l with
  | nil => rfl
  | cons x l ih => simp only [List.flatMap_cons, List.length_append, ih, List.length_cons, bytes16, List.length_nil]; omega

theorem bytes32_flatMap_length (l : List Long) : (l.flatMap bytes32).length = 4 * l.length := by
  induction l with
  | nil => rfl
  | cons x l ih => simp only [List.flatMap_cons, List.length_append, ih, List.length_cons, bytes32, List.length_nil]; omega

theorem smodeQuat : Statement .smodeQuat := hasRow_mkFrame _ _ rfl
theorem smodeRaw : Statement .smodeRaw := hasRow_mkFrame _ _ rfl
theorem smodeOff : Statement .smodeOff := hasRow_mkFrame _ _ rfl
theorem sampleRaw (v : Half) (c : Long) (u : Vector Half 18) (t : Vector Half 24) : Statement (.sampleRaw v c u t) :=
  hasRow_mkFrame _ _ (by
    simp only [rawPayload, List.length_cons, List.length_append, bytes16_flatMap_length, Vector.length_toList]
    rfl)
theorem sampleQuat (b : Byte) (v : Half) (c : Long) (q : Vector Long 8) (t : Vector Half 24) :
    Statement (.sampleQuat b v c q t) :=
  hasRow_mkFrame _ _ (by
    simp only [quatPayload, List.length_cons, List.length_append, bytes16_flatMap_length, bytes32_flatMap_length,
      Vector.length_toList]
    rfl)
theorem stop : Statement .stop := hasRow_mkFrame _ _ rfl
theorem infoReq : Statement .infoReq := hasRow_mkFrame _ _ rfl
theorem infoRsp (d r : Byte) (v : Half) (a n g : Long) (h r' : Byte) : Statement (.infoRsp d r v a n g h r') :=
  hasRow_mkFrame _ _ rfl
theorem setidReq (v : Half) : Statement (.setidReq v) := hasRow_mkFrame _ _ rfl
theorem setidRsp (v : Half) : Statement (.setidRsp v) := hasRow_mkFrame _ _ rfl
theorem reboot : Statement .reboot := hasRow_mkFrame _ _ rfl
theorem labelGet : Statement .labelGet := hasRow_mkFrame _ _ rfl
theorem labelSet (l : Vector Byte 16) : Statement (.labelSet l) := hasRow_mkFrame _ _ (by simp)
theorem labelRsp (l : Vector Byte 16) : Statement (.labelRsp l) := hasRow_mkFrame _ _ (by simp)
theorem fwverReq : Statement .fwverReq := hasRow_mkFrame _ _ rfl
theorem fwverRsp (a b c : Byte) : Statement (.fwverRsp a b c) := hasRow_mkFrame _ _ rfl
theorem calibStart : Statement .calibStart := hasRow_mkFrame _ _ rfl
theorem calibStage (b : Byte) : Statement (.calibStage b) := hasRow_mkFrame _ _ rfl
theorem poweroff : Statement .poweroff := hasRow_mkFrame _ _ rfl
theorem vibro (a b c d e r : Byte) : Statement (.vibro a b c d e r) := hasRow_mkFrame _ _ rfl
theorem encode (t : Byte) (p : List Byte) : Statement (.encode t p) := by intro d F h; cases h
theorem rxDiscard (b : Byte) : Statement (.rxDiscard b) := by intro d F h; cases h
theorem rxSof : Statement .rxSof := by intro d F h; cases h
theorem rxType (b : Byte) : Statement (.rxType b) := by intro d F h; cases h
theorem rxLen (b : Byte) : Statement (.rxLen b) := by intro d F h; cases h
theorem rxPayload (b : Byte) : Statement (.rxPayload b) := by intro d F h; cases h
theorem rxCsum (b : Byte) : Statement (.rxCsum b) := by intro d F h; cases h
theorem rxEnd (b : Byte) : Statement (.rxEnd b) := by intro d F h; cases h
theorem abort : Statement .abort := by intro d F h; cases h
theorem sdecRaw (P : List Byte) : Statement (.sdecRaw P) := by intro d F h; cases h
theorem sdecQuat (P : List Byte) : Statement (.sdecQuat P) := by intro d F h; cases h

end Sys2Proof.Laws.FrameRow
end

