-- ==== Sys2Proof/Tests/Slice0.lean ====
section
/-! SUPPORT. Tests. Expected values come from spec/95_test_vectors.md (A, B1 to B4, the register trace of B2.2) and from the
encodings of R106 to R125; the witnesses show that every statement's hypotheses can be met, clause by clause. -/

open Sys2Proof Sys2Proof.Machine Sys2Proof.Claims

namespace Sys2Proof.Tests

/-! ### Small states -/

/-- The host's turn, with these calls to make. -/
def hostTurn (cs : List HostCall) : State := { State.reset with hostCalls := cs }

/-- A `DecodeNext(e)` in progress, hunting, with these items to come. -/
def awaiting (e : Byte) (items : List RxItem) : State :=
  { State.reset with inCall := true, expectedType := e, rxStream := items }

/-- The host's turn, with these calls to make and a write that times out; in `CONNECT` or not. -/
def timingOut (connecting : Bool) (cs : List HostCall) : State :=
  { State.reset with
    writeTimeouts := [true]
    hostCalls := cs
    session := { State.reset.session with seq := if connecting then some { connecting := true, start := 0 } else none } }

/-- A frame `24 31 len` in progress of which `cnt` zero payload bytes have come. -/
def inPayload (len cnt : Byte) (items : List RxItem) : State :=
  { awaiting 0x31 items with rxState := .payload, rxType := 0x31, rxLen := len, rxCnt := cnt, rxSum := 0x55 + len }

/-- The frame `24 31 03 64 cs` in progress (sum `BC`), in state `q`. -/
def inTrailer (q : RxState) (cs e : Byte) (items : List RxItem) : State :=
  { awaiting e items with
    rxState := q, rxType := 0x31, rxLen := 3, rxCnt := 1, rxBuf := [(0, 0x64)], rxSum := 0xBC, rxCsum := cs }

/-- The next state, if there is one. -/
def after : Host.Outcome State Fault Refusal → Option State
  | .next t => some t
  | _ => none

/-- The parts of `Inv`, each decidable. -/
theorem inv_of {s : State}
    (h : s.rxBuf.wf = true ∧ (s.rxState = .payload → 3 ≤ s.rxLen.toNat ∧ s.rxCnt.toNat + 2 < s.rxLen.toNat) ∧
      (s.rxState = .csum ∨ s.rxState = .endMark → 2 ≤ s.rxLen.toNat ∧ s.rxCnt.toNat + 2 = s.rxLen.toNat) ∧
      (s.rxState ≠ .hunt → s.rxSum = sum8 s.covered) ∧ s.rxCnt.toNat ≤ 253 ∧ (s.event ≠ .none → s.rxState = .hunt) ∧
      (s.inCall = false → s.rxState = .hunt)) : Inv s :=
  ⟨h.1, h.2.1, h.2.2.1, h.2.2.2.1, h.2.2.2.2.1, h.2.2.2.2.2.1, h.2.2.2.2.2.2⟩

/-- The payload of vector S1 (B3). -/
def payloadS1 : List Byte :=
    [0x03, 0x00, 0x2A, 0x00, 0x01, 0xE2, 0x40, 0x40, 0x00, 0xC0, 0x00, 0x00, 0x01, 0x20, 0x00, 0x80] ++
    [0x00, 0x7F, 0xFF, 0xFF, 0xCE, 0x00, 0x00, 0x01, 0x2C, 0x00, 0x00, 0x7F, 0xFF, 0x80, 0x00, 0x00] ++
    [0x00, 0xE0, 0x00, 0x10, 0x00, 0x00, 0x64, 0xFF, 0x9C, 0x00, 0x01, 0x00, 0x64, 0x00, 0xC8, 0x01] ++
    [0x2C, 0x01, 0x90, 0x01, 0xF4, 0x02, 0x58, 0x02, 0xBC, 0x03, 0x20, 0x03, 0x84, 0x03, 0xE8, 0x00] ++
    [0xFA, 0x1E, 0x61, 0x03, 0xE8, 0xFF, 0xFF, 0x00, 0x00, 0x03, 0xE7, 0x01, 0x4D, 0x01, 0xF4, 0x03] ++
    [0xE8, 0x02, 0xEE, 0x00, 0x00, 0x03, 0xE8, 0x00, 0x7D, 0x03, 0x6B]

/-- The payload of vector S2 (B3). -/
def payloadS2 : List Byte :=
    [0x01, 0x00, 0x07, 0x00, 0x00, 0x03, 0xE8, 0x00, 0x00, 0x00, 0x00, 0x00, 0x00, 0x00, 0x00, 0x00] ++
    [0x00, 0x00, 0x00, 0x00, 0x01, 0x00, 0x00, 0x00, 0x00, 0xB5, 0x05, 0xFF, 0xFF, 0x4A, 0xFB, 0x00] ++
    [0x00, 0x80, 0x00, 0xFF, 0xFF, 0x00, 0x00, 0x00, 0x00, 0x03, 0xE8, 0x00, 0x01, 0x03, 0xE7, 0x01] ++
    [0xF4, 0x01, 0xF4, 0xFF, 0xFF, 0x00, 0x00, 0x00, 0x7B, 0x01, 0xC8, 0x00, 0x00, 0x00, 0x00, 0x01] ++
    [0xF4, 0x00, 0x00, 0x03, 0xE7, 0x00, 0x00, 0x00, 0x01, 0x03, 0xE6, 0x07, 0xD0, 0x00, 0x01, 0x00] ++
    [0x02, 0x00, 0x03, 0x00, 0x04, 0x03, 0xE8]

/-! ### WellFormed: one ill-formed term per check -/

theorem test_ill_sampleQuat_subtype : (Instr.sampleQuat 0x03 0 0 (Vector.replicate 8 0) (Vector.replicate 24 0)).wellFormed = false := by decide
theorem test_ill_rxDiscard_startMarker : (Instr.rxDiscard 0x24).wellFormed = false := by decide
theorem test_ill_sdecRaw_subtype : (Instr.sdecRaw [0x01]).wellFormed = false := by decide
theorem test_ill_sdecRaw_empty : (Instr.sdecRaw []).wellFormed = false := by decide
theorem test_ill_sdecQuat_subtype : (Instr.sdecQuat [0x03]).wellFormed = false := by decide
theorem test_well_sdecQuat_empty : (Instr.sdecQuat []).wellFormed = true := by decide

/-! ### Decoding: words written out from the encodings -/

theorem test_decode_smodeQuat : decode (.frame .tx [0x24, 0x0A, 0x03, 0x01, 0x32, 0x23]) = .ok .smodeQuat := by decide

theorem test_decode_smodeRaw : decode (.frame .tx [0x24, 0x0A, 0x03, 0x03, 0x34, 0x23]) = .ok .smodeRaw := by decide

theorem test_decode_smodeOff : decode (.frame .tx [0x24, 0x0A, 0x03, 0x00, 0x31, 0x23]) = .ok .smodeOff := by decide

theorem test_decode_stop : decode (.frame .tx [0x24, 0x0B, 0x02, 0x31, 0x23]) = .ok .stop := by decide

theorem test_decode_infoReq : decode (.frame .tx [0x24, 0x0C, 0x02, 0x32, 0x23]) = .ok .infoReq := by decide

theorem test_decode_infoRsp : decode (.frame .rx [0x24, 0x0C, 0x14, 0x01, 0x00, 0x00, 0x2A, 0xC0, 0xA8, 0x01, 0x0A, 0xFF, 0xFF, 0xFF, 0x00, 0xC0, 0xA8, 0x01, 0x01, 0x01, 0x00, 0x4A, 0x23]) = .ok (.infoRsp 1 0 42 0xC0A8010A 0xFFFFFF00 0xC0A80101 1 0) := by decide

theorem test_decode_setidReq : decode (.frame .tx [0x24, 0x0D, 0x04, 0x12, 0x34, 0x7B, 0x23]) = .ok (.setidReq 0x1234) := by decide

theorem test_decode_setidRsp : decode (.frame .rx [0x24, 0x0D, 0x04, 0x00, 0x2A, 0x5F, 0x23]) = .ok (.setidRsp 42) := by decide

theorem test_decode_reboot : decode (.frame .tx [0x24, 0x0E, 0x02, 0x34, 0x23]) = .ok .reboot := by decide

theorem test_decode_labelGet : decode (.frame .tx [0x24, 0x11, 0x02, 0x37, 0x23]) = .ok .labelGet := by decide

theorem test_decode_labelSet : decode (.frame .tx [0x24, 0x11, 0x12, 0x67, 0x6C, 0x6F, 0x76, 0x65, 0x00, 0x00, 0x00, 0x00, 0x00, 0x00, 0x00, 0x00, 0x00, 0x00, 0x00, 0x64, 0x23]) = .ok (.labelSet ⟨#[0x67, 0x6C, 0x6F, 0x76, 0x65, 0, 0, 0, 0, 0, 0, 0, 0, 0, 0, 0], rfl⟩) := by decide

theorem test_decode_labelRsp : decode (.frame .rx [0x24, 0x11, 0x12, 0x67, 0x6C, 0x6F, 0x76, 0x65, 0x00, 0x00, 0x00, 0x00, 0x00, 0x00, 0x00, 0x00, 0x00, 0x00, 0x00, 0x64, 0x23]) = .ok (.labelRsp ⟨#[0x67, 0x6C, 0x6F, 0x76, 0x65, 0, 0, 0, 0, 0, 0, 0, 0, 0, 0, 0], rfl⟩) := by decide

theorem test_decode_fwverReq : decode (.frame .tx [0x24, 0x13, 0x02, 0x39, 0x23]) = .ok .fwverReq := by decide

theorem test_decode_fwverRsp : decode (.frame .rx [0x24, 0x13, 0x05, 0x01, 0x02, 0x03, 0x42, 0x23]) = .ok (.fwverRsp 1 2 3) := by decide

theorem test_decode_calibStart : decode (.frame .tx [0x24, 0x31, 0x02, 0x57, 0x23]) = .ok .calibStart := by decide

theorem test_decode_calibStage : decode (.frame .rx [0x24, 0x31, 0x03, 0xFF, 0x57, 0x23]) = .ok (.calibStage 255) := by decide

theorem test_decode_poweroff : decode (.frame .tx [0x24, 0x40, 0x02, 0x66, 0x23]) = .ok .poweroff := by decide

theorem test_decode_vibro : decode (.frame .tx [0x24, 0x60, 0x08, 0x6E, 0xB4, 0xFA, 0x6E, 0xFA, 0x00, 0x10, 0x23]) = .ok (.vibro 0x6E 0xB4 0xFA 0x6E 0xFA 0x00) := by decide

/-- Vector S1 as a frame: `24 0A 5D`, payload, checksum `AE`. -/
theorem test_decode_sampleRaw : decode (.frame .rx ([0x24, 0x0A, 0x5D] ++ payloadS1 ++ [0xAE, 0x23])) =
    .ok (.sampleRaw 42 123456 ⟨#[16384, -16384, 1, 8192, -32768, 32767, -50, 0, 300, 0, 32767, -32768,
      0, -8192, 4096, 100, -100, 1], rfl⟩
      ⟨#[100, 200, 300, 400, 500, 600, 700, 800, 900, 1000, 250, 7777,
      1000, 65535, 0, 999, 333, 500, 1000, 750, 0, 1000, 125, 875], rfl⟩) := by decide +kernel

/-- Vector S2 as a frame: `24 0A 59`, payload, checksum `8D`. -/
theorem test_decode_sampleQuat : decode (.frame .rx ([0x24, 0x0A, 0x59] ++ payloadS2 ++ [0x8D, 0x23])) =
    .ok (.sampleQuat 1 7 1000 ⟨#[0, 0, 0, 65536, 46341, -46341, 32768, -65536], rfl⟩
      ⟨#[0, 1000, 1, 999, 500, 500, 65535, 0, 123, 456, 0, 0,
      500, 0, 999, 0, 1, 998, 2000, 1, 2, 3, 4, 1000], rfl⟩) := by decide +kernel

theorem test_decode_rxDiscard : decode (.rxByte .hunt 0x23) = .ok (.rxDiscard 0x23) := by decide
theorem test_decode_rxSof : decode (.rxByte .hunt 0x24) = .ok .rxSof := by decide
theorem test_decode_rxType : decode (.rxByte .type 0x24) = .ok (.rxType 0x24) := by decide
theorem test_decode_rxLen : decode (.rxByte .len 0x04) = .ok (.rxLen 0x04) := by decide
theorem test_decode_rxPayload : decode (.rxByte .payload 0x24) = .ok (.rxPayload 0x24) := by decide
theorem test_decode_rxCsum : decode (.rxByte .csum 0x5F) = .ok (.rxCsum 0x5F) := by decide
theorem test_decode_rxEnd : decode (.rxByte .endMark 0x24) = .ok (.rxEnd 0x24) := by decide
theorem test_decode_abort : decode .abort = .ok .abort := by decide
theorem test_decode_encode : decode (.encode 0x55 [0x24, 0x23]) = .ok (.encode 0x55 [0x24, 0x23]) := by decide
theorem test_decode_sdecRaw : decode (.sdec [0x03]) = .ok (.sdecRaw [0x03]) := by decide
theorem test_decode_sdecQuat : decode (.sdec [0x01]) = .ok (.sdecQuat [0x01]) := by decide

/-- The six conditions of R59, each violated once, are rejected by name. -/
theorem test_reject_frames :
    decode (.frame .tx [0x24, 0x0B]) = .error .tooShort ∧ decode (.frame .tx [0x25, 0x0B, 0x02, 0x31, 0x23]) = .error .badStart ∧
    decode (.frame .tx [0x24, 0x0B, 0x01, 0x30, 0x23]) = .error .badLength ∧
    decode (.frame .tx [0x24, 0x0B, 0x03, 0x31, 0x23]) = .error .lengthMismatch ∧
    decode (.frame .tx [0x24, 0x0B, 0x02, 0x30, 0x23]) = .error .badChecksum ∧
    decode (.frame .tx [0x24, 0x0B, 0x02, 0x31, 0x22]) = .error .badEnd ∧
    decode (.frame .tx [0x24, 0x0A, 0x03, 0x02, 0x33, 0x23]) = .error (.noSuchRequest 0x0A 1) ∧
    decode (.frame .rx [0x24, 0x0B, 0x02, 0x31, 0x23]) = .error (.noSuchResponse 0x0B 0) := by decide

/-- Table words: `24 0A 03 01` is `SMODE.QUAT`'s, byte `24` is `RX.SOF`'s, and both run as the first step after reset. -/
theorem test_table_words : decodeTableWord 32 0x240A0301 = some .smodeQuat ∧ decodeTableWord 8 0x24 = some .rxSof ∧
    after (step (State.reset.withFetchWord 32 0x240A0301)) = after (exec .smodeQuat State.reset) := by decide

/-! ### One step each -/

/-- B1: the request frames, through `send`. -/
theorem test_step_requests :
    ([[0x24, 0x0A, 0x03, 0x01, 0x32, 0x23], [0x24, 0x0B, 0x02, 0x31, 0x23], [0x24, 0x0D, 0x04, 0x12, 0x34, 0x7B, 0x23],
      [0x24, 0x31, 0x02, 0x57, 0x23], [0x24, 0x40, 0x02, 0x66, 0x23],
      [0x24, 0x60, 0x08, 0x6E, 0xB4, 0xFA, 0x6E, 0xFA, 0x00, 0x10, 0x23]] : List (List Byte)).map
      (fun F => match step (hostTurn [.send F]) with | .next t => t.txStream == F | _ => false) =
    [true, true, true, true, true, true] := by decide

/-- B1.7, B1.8, B1.11: `ENCODE` of marker values, of a wrapping sum, of type `24`. -/
theorem test_step_encode :
    ([(0x55, [0x24, 0x23]), (0xFF, [0xFF, 0xFF, 0xFF]), (0x24, [])] : List (Byte × List Byte)).map
      (fun f => match step (hostTurn [.encode f.1 f.2]) with | .next t => t.txStream | _ => []) =
    [[0x24, 0x55, 0x04, 0x24, 0x23, 0xC4, 0x23], [0x24, 0xFF, 0x05, 0xFF, 0xFF, 0xFF, 0x25, 0x23],
      [0x24, 0x24, 0x02, 0x4A, 0x23]] := by decide

/-- B1.13: `ENCODE` of 254 bytes. -/
theorem test_step_encode_too_long : after (exec (.encode 0x55 (List.replicate 254 0)) State.reset) =
    some { State.reset with results := [.error (.encodeLengthError 254)] } := by decide +kernel

/-- B2.2: the register trace of `24 0D 04 00 2A 5F 23` with `E = 0D`. -/
theorem test_step_rxSof : after (step (awaiting 0x0D [.byte 0x24])) =
    some { awaiting 0x0D [] with rxState := .type, rxSum := 0x24 } := by decide

theorem test_step_rxType : after (step { awaiting 0x0D [.byte 0x0D] with rxState := .type, rxSum := 0x24 }) =
    some { awaiting 0x0D [] with rxState := .len, rxSum := 0x31, rxType := 0x0D } := by decide

theorem test_step_rxLen : after (exec (.rxLen 0x04) { awaiting 0x0D [] with rxState := .len, rxSum := 0x31, rxType := 0x0D }) =
    some { awaiting 0x0D [] with rxState := .payload, rxSum := 0x35, rxType := 0x0D, rxLen := 0x04 } := by decide

theorem test_step_rxPayload : after (exec (.rxPayload 0x2A)
    { awaiting 0x0D [] with rxState := .payload, rxSum := 0x35, rxType := 0x0D, rxLen := 0x04, rxCnt := 1 }) =
    some { awaiting 0x0D [] with
      rxState := .csum, rxSum := 0x5F, rxType := 0x0D, rxLen := 0x04, rxCnt := 2, rxBuf := [(1, 0x2A)] } := by decide

theorem test_step_rxCsum : after (exec (.rxCsum 0x5F) (inTrailer .csum 0 0x31 [])) = some (inTrailer .endMark 0x5F 0x31 []) := by
  decide

/-- P6: `24 31 03 64 BC 23` with `E = 31`. -/
theorem test_step_rxEnd_accept : after (exec (.rxEnd 0x23) (inTrailer .endMark 0xBC 0x31 [])) = some { inTrailer .hunt 0xBC 0x31 [] with
    event := .accept 0x31 [0x64], inCall := false, results := [.payload [0x64]] } := by decide

/-- B2.8: a wrong checksum and a wrong end byte that is `24`. -/
theorem test_step_rxEnd_both : after (exec (.rxEnd 0x24) (inTrailer .endMark 0xBD 0x13 [])) = some { inTrailer .hunt 0xBD 0x13 [] with
    event := .pktErr 0b011, inCall := false, results := [.error (.packetError 0b011)] } := by decide

/-- B2.13: a timeout while hunting. -/
theorem test_step_abort : after (step (awaiting 0x0C [.abort])) = some { awaiting 0x0C [] with
    event := .timeout, inCall := false, results := [.error .timeoutError] } := by decide

/-- R63, R133, R134: a write timeout reaches the host, as a `ConnectionError` in `CONNECT`; the mode is not noted. -/
theorem test_step_write_timeout :
    ([false, true].map fun c => match step (timingOut c [.send [0x24, 0x0A, 0x03, 0x01, 0x32, 0x23]]) with
      | .next t => (t.results, t.session.mode, t.writeTimeouts) | _ => ([], .raw, [])) =
    [([.error .timeoutError], .off, []), ([.error (.connectionError false)], .off, [])] := by decide

/-- R134: a response timeout in `CONNECT`. -/
theorem test_step_connect_abort : (match step { timingOut true [] with inCall := true, rxStream := [.abort] } with
    | .next t => (t.event, t.results) | _ => (.none, [])) = (.timeout, [.error (.connectionError true)]) := by decide

/-- R57, R140: `EXEC` of an overlength payload starts no `DecodeNext`; the host goes on after the entry. -/
theorem test_step_failed_entry : (match step { hostTurn [.decodeNext 0x55, .seqEnd, .close] with
      results := [.error (.encodeLengthError 254)], session := { State.reset.session with seq := some { connecting := false, start := 0 } } } with
    | .next t => (t.hostCalls, t.session.seq, t.inCall) | _ => ([], none, true)) = ([.close], none, false) := by decide

/-- B2.14, B2.9: `DecodeNext` reports once and leaves the rest of the bytes. -/
theorem test_call_corrupt_length :
    (match decodeNext 0x13 (awaiting 0 (bytesOf [0x24, 0x13, 0x03, 0x01, 0x02, 0x03, 0x42, 0x23])) with
      | .next t => (t.event, t.rxStream) | _ => (.none, [])) = (.pktErr 0b011, bytesOf [0x42, 0x23]) := by decide

/-- B4, A9: the echoed id becomes the cached one. -/
theorem test_step_setidRsp : (match exec (.setidRsp 42) (awaiting 0x0D []) with
    | .next t => (t.event, t.session.identity.deviceId) | _ => (.none, none)) = (.accept 0x0D [0x00, 0x2A], some 42) := by
  decide

/-- B2.3: the same frame while `13` is expected is skipped. -/
theorem test_step_setidRsp_skip : (match exec (.setidRsp 42) (awaiting 0x13 []) with
    | .next t => (t.event, t.results, t.session.identity.deviceId) | _ => (.timeout, [], none)) = (.none, [], none) := by
  decide

/-- P5: the fields of the device-info response. -/
theorem test_step_infoRsp : (match exec (.infoRsp 1 0 42 0xC0A8010A 0xFFFFFF00 0xC0A80101 1 0) (awaiting 0x0C []) with
    | .next t => (t.session.identity.address, t.session.identity.dhcp) | _ => (none, none)) = (some 0xC0A8010A, some 1) := by
  decide

/-- A7: stages 10, 50, 90, 100 succeed; stage 255 fails. -/
theorem test_step_calibStage : (match exec (.calibStage 100) { awaiting 0x31 [] with
      session := { State.reset.session with calib := .running [10, 50, 90] } } with
    | .next t => t.session.calib | _ => .idle) = .succeeded [10, 50, 90] := by decide

theorem test_step_calibStage_fail : (match exec (.calibStage 255) { awaiting 0x31 [] with
      session := { State.reset.session with calib := .running [10] } } with
    | .next t => (t.session.calib, t.results) | _ => (.idle, [])) =
    (.failed [10], [.payload [255], .error .deviceError]) := by decide

/-- S1: selected fields of the raw sample, exact. -/
theorem test_step_sdecRaw : (match exec (.sdecRaw payloadS1) State.reset with
    | .next t => (match t.sample with
      | some (.raw c w h) => some (c.clock, w.acceleration[2], h.angularVelocity[2], c.dipJoints[4], c.pressures[4]) | _ => none)
    | _ => none) = some (15432 / 125, 32767 / 8192, -10, 1, -1 / 999) := by decide +kernel

/-- S1: the binary64 patterns of `clock`, `pip_joints[0]`, `pressures[2]` and `pressures[4]`. -/
theorem test_step_sdecRaw_binary64 : (match exec (.sdecRaw payloadS1) State.reset with
    | .next t => (match t.rendered with
      | some (.raw c _ _) => some (c.clock, c.pipJoints[0], c.pressures[2], c.pressures[4]) | _ => none)
    | _ => none) = some (0x405EDD2F1A9FBE77, 0x3FB999999999999A, 0x3FE5555555555556, 0xBF506680A4010800) := by decide +kernel

/-- S2: selected fields of the quaternion sample. -/
theorem test_step_sdecQuat : (match exec (.sdecQuat payloadS2) State.reset with
    | .next t => (match t.sample with
      | some (.quat c w h) => some (c.deviceId, w.w, h.y, c.pipJoints[3], c.pressures[4]) | _ => none)
    | _ => none) = some (7, 1, -46341 / 65536, 13107 / 200, -1001 / 999) := by decide +kernel

/-- B3.1: the empty payload. -/
theorem test_step_sdec_empty : after (step (hostTurn [.sdec []])) =
    some { State.reset with results := [.error (.sampleLengthError 0)] } := by decide

/-- A11: intensities 0, 0.5, 1, -3, 7. -/
theorem test_vibro_bytes : ([0, 1 / 2, 1, -3, 7] : List Rat).map vibroByte = [0x6E, 0xB4, 0xFA, 0x6E, 0xFA] := by
  decide +kernel

/-! ### Witnesses: every statement's hypotheses are met somewhere, clause by clause -/

theorem inv_reset : Inv State.reset := inv_of (by decide)
theorem inv_awaiting (e : Byte) (items : List RxItem) : Inv (awaiting e items) :=
  inv_of (by simp [awaiting, State.reset, Memory.wf, Memory.wfFrom])
theorem awaiting_ok (e : Byte) : Awaiting (awaiting e []) e := ⟨inv_awaiting e [], ⟨rfl, rfl⟩, rfl, rfl⟩
theorem inv_last_payload : Inv (inPayload 0xFF 252 []) := inv_of (by decide +kernel)
theorem inv_only_payload : Inv (inPayload 3 0 []) := inv_of (by decide)
theorem inv_not_last_payload : Inv (inPayload 4 0 []) := inv_of (by decide)
theorem inv_csum : Inv (inTrailer .csum 0 0x31 []) := inv_of (by decide)
theorem inv_end_bad : Inv (inTrailer .endMark 0xBD 0x31 []) := inv_of (by decide)
theorem inv_end_accept : Inv (inTrailer .endMark 0xBC 0x31 []) := inv_of (by decide)
theorem inv_end_skip : Inv (inTrailer .endMark 0xBC 0x13 []) := inv_of (by decide)
theorem inv_type : Inv { awaiting 0 [] with rxState := .type, rxSum := 0x24 } := inv_of (by decide)
theorem inv_len : Inv { awaiting 0 [] with rxState := .len, rxType := 0x31, rxSum := 0x55 } := inv_of (by decide)
theorem txWhole_reset : TxWhole State.reset := ⟨[], by simp, rfl⟩

theorem witness_DecodeEncodeRoundTrip :
    (Instr.sampleQuat 0x01 0 0 (Vector.replicate 8 0) (Vector.replicate 24 0)).wellFormed = true ∧
    (Instr.rxDiscard 0x23).wellFormed = true ∧ (Instr.sdecRaw [0x03]).wellFormed = true ∧ (Instr.sdecQuat []).wellFormed = true := by
  decide

theorem witness_EncodeDecodeRoundTrip : decode (.frame .rx [0x24, 0x0D, 0x04, 0x12, 0x34, 0x7B, 0x23]) = .ok (.setidRsp 0x1234) := by
  decide

/-- Payloads at both ends of the range of R59, R40 and R60; the longest one that `ENCODE` takes and the shortest it refuses. -/
theorem witness_payload_lengths : ([] : List Byte).length ≤ 253 ∧ (List.replicate 253 (0 : Byte)).length ≤ 253 ∧
    253 < (List.replicate 254 (0 : Byte)).length :=
  ⟨by decide, le_of_eq List.length_replicate, lt_of_lt_of_eq (by omega) List.length_replicate.symm⟩

/-- WellFormedFramesAreEncoderOutputs, second clause: two equal frames. -/
theorem witness_WellFormedFramesAreEncoderOutputs : mkFrame 0x77 (List.replicate 253 0xFF) = mkFrame 0x77 (List.replicate 253 0xFF) ∧
    WellFormedFrame [0x24, 0x0B, 0x02, 0x31, 0x23] :=
  ⟨rfl, by decide, rfl, ⟨2, rfl, by decide, by decide⟩, by decide, rfl⟩

theorem witness_ChecksumSumsAndDetectsOneByte : (0x0A : Byte) ≠ 0x0B := by decide

/-- R31's example, and a field that grows the sequence by its own length. -/
theorem test_memWrite : memWrite [] 0 2 42 = [0x00, 0x2A] ∧ memWrite [0x01] 1 2 0x1234 = [0x01, 0x12, 0x34] ∧
    memWrite [1, 2, 3, 4] 1 2 0 = [1, 0, 0, 4] := by decide

/-- FieldReadsAreBigEndian: a field that ends the payload. -/
theorem witness_field_bounds : 90 + 1 ≤ payloadS1.length ∧ 89 + 2 ≤ payloadS1.length ∧ 87 + 4 ≤ payloadS1.length := by decide

theorem witness_VibroBytesClampAndScale : ((0 : Rat) ≤ 0 ∧ (1 : Rat) ≤ 1) ∧ (0 ≤ 140 ∧ 140 ≤ 140) := by norm_num

/-- OperandRequestsTransmit, the host's two calls: strings of 0, 16 and 17 bytes, and intensities. -/
theorem witness_OperandRequestsTransmit : ([] : List Byte).length ≤ 16 ∧ (List.replicate 16 (0x41 : Byte)).length ≤ 16 ∧
    16 < (List.replicate 17 (0x41 : Byte)).length ∧
    (HostTurn (hostTurn (setVibro Config.initial (Vector.replicate 5 1))) ∧
      (hostTurn (setVibro Config.initial (Vector.replicate 5 1))).hostCalls =
        setVibro State.reset.cfg (Vector.replicate 5 1) ++ []) ∧
    HostTurn (hostTurn (entry false [.send (mkFrame 0x11 (List.replicate 16 0x41)), .decodeNext 0x11])) ∧
    setLabel (List.replicate 16 0x41) = some (entry false [.send (mkFrame 0x11 (List.replicate 16 0x41)), .decodeNext 0x11]) :=
  ⟨by decide, by decide, by decide, ⟨⟨rfl, rfl, rfl⟩, by simp; rfl⟩, ⟨rfl, rfl, rfl⟩, by decide⟩

/-- EncodeAppendsOrRefuses, FixedRequestsTransmit, OperandRequestsTransmit: past the environment's decisions a write completes,
and so does one that the environment lets complete. -/
theorem witness_writes_complete : WriteCompletes State.reset ∧ WriteCompletes { State.reset with writeTimeouts := [false, true] } :=
  ⟨rfl, rfl⟩

/-- WriteTimeoutReachesHost: the next write times out, for `ENCODE` and for a request with and without operands. -/
theorem witness_WriteTimeoutReachesHost : ([0x2A, 0x00] : List Byte).length ≤ 253 ∧ (timingOut false []).writeTimeouts.headD false = true ∧
    encode .stop = .frame .tx (mkFrame 0x0B []) ∧ encode (.setidReq 0x2A00) = .frame .tx (mkFrame 0x0D [0x2A, 0x00]) :=
  ⟨by decide, rfl, by decide, by decide⟩

theorem witness_PowerOffEndsTheRun : WriteCompletes State.reset ∧ ∃ t : State, exec .poweroff State.reset = .next t :=
  ⟨rfl, _, rfl⟩

theorem witness_StepKeepsWholeFrames : TxWhole State.reset ∧
    ∃ t : State, step (hostTurn [.encode 0x0B []]) = .next t ∧ TxWhole (hostTurn [.encode 0x0B []]) :=
  ⟨txWhole_reset, _, rfl, txWhole_reset⟩

theorem witness_NoiseIsDiscarded : Receiving (awaiting 0 (bytesOf [0x00, 0x23, 0xFF] ++ [.byte 0x24])) ∧
    (awaiting 0 (bytesOf [0x00, 0x23, 0xFF] ++ [.byte 0x24])).rxState = .hunt ∧ ([0x00, 0x23, 0xFF] : List Byte) ≠ [] ∧
    (∀ b ∈ ([0x00, 0x23, 0xFF] : List Byte), b ≠ 0x24) := ⟨⟨rfl, rfl⟩, rfl, by decide, by decide⟩

/-- StartMarkerOpensFrame, EveryByteIsConsumedByOneStep, and the decoder's clause of StepRunsTheDecodedInstruction. -/
theorem witness_hunt : Inv (awaiting 0 [.byte 0x24]) ∧ Receiving (awaiting 0 [.byte 0x24]) ∧
    (awaiting 0 [.byte 0x24]).rxState = .hunt ∧ (awaiting 0 [.byte 0x24]).rxStream = .byte 0x24 :: [] :=
  ⟨inv_awaiting _ _, ⟨rfl, rfl⟩, rfl, rfl⟩

theorem witness_TypeByteIsLatched : Receiving { awaiting 0 [.byte 0x24] with rxState := .type } ∧
    { awaiting 0 [.byte 0x24] with rxState := .type }.rxStream = .byte 0x24 :: [] := ⟨⟨rfl, rfl⟩, rfl⟩

theorem witness_LengthByteIsLatched : ((0x00 : Byte).toNat < 2 ∧ (0x01 : Byte).toNat < 2) ∧ (0x02 : Byte).toNat = 2 ∧
    (2 < (0x03 : Byte).toNat ∧ 2 < (0xFF : Byte).toNat) ∧ Receiving { awaiting 0 [.byte 0x02] with rxState := .len } ∧
    { awaiting 0 [.byte 0x02] with rxState := .len }.rxStream = .byte 0x02 :: [] :=
  ⟨by decide, by decide, by decide, ⟨rfl, rfl⟩, rfl⟩

/-- The last entry of `RX_BUF` and the first that is none. -/
theorem witness_PayloadByteIsStored : ((inPayload 0xFF 252 []).rxBuf.wf = true ∧ (inPayload 0xFF 252 []).rxCnt.toNat < 253) ∧
    253 ≤ (inPayload 0xFF 253 []).rxCnt.toNat ∧ Receiving (inPayload 0xFF 252 [.byte 0x24]) ∧
    (inPayload 0xFF 252 [.byte 0x24]).rxState = .payload ∧ (inPayload 0xFF 252 [.byte 0x24]).rxStream = .byte 0x24 :: [] :=
  ⟨by decide, by decide, ⟨rfl, rfl⟩, rfl, rfl⟩

theorem witness_ChecksumByteIsLatched : Receiving (inTrailer .csum 0 0x31 [.byte 0xBC]) ∧
    (inTrailer .csum 0 0x31 [.byte 0xBC]).rxState = .csum ∧ (inTrailer .csum 0 0x31 [.byte 0xBC]).rxStream = .byte 0xBC :: [] :=
  ⟨⟨rfl, rfl⟩, rfl, rfl⟩

/-- The six clauses of EndByteJudgesFrame, and its step. -/
theorem witness_EndByteJudgesFrame :
    ((inTrailer .endMark 0xBD 0x31 []).rxCsum ≠ (inTrailer .endMark 0xBD 0x31 []).rxSum ∧ (0x22 : Byte) ≠ 0x23) ∧
    (inTrailer .endMark 0xBC 0x31 []).rxCsum = (inTrailer .endMark 0xBC 0x31 []).rxSum ∧
    ((inTrailer .endMark 0xBC 0x31 []).rxType = (inTrailer .endMark 0xBC 0x31 []).expectedType ∧
      (inTrailer .endMark 0xBC 0x31 []).rxCnt.toNat ≤ 253) ∧
    (inTrailer .endMark 0xBC 0x13 []).rxType ≠ (inTrailer .endMark 0xBC 0x13 []).expectedType ∧
    { inTrailer .endMark 0xBC 0x31 [] with rxCnt := 253 }.rxCnt.toNat ≤ 253 ∧
    253 < { inTrailer .endMark 0xBC 0x31 [] with rxCnt := 254 }.rxCnt.toNat ∧
    Receiving (inTrailer .endMark 0xBC 0x31 [.byte 0x23]) ∧
    (inTrailer .endMark 0xBC 0x31 [.byte 0x23]).rxStream = .byte 0x23 :: [] :=
  ⟨by decide, by decide, by decide, by decide, by decide, by decide, ⟨rfl, rfl⟩, rfl⟩

theorem witness_AbortAbandonsFrame : Receiving (inPayload 4 1 [.abort]) ∧ (inPayload 4 1 [.abort]).rxStream = .abort :: [] :=
  ⟨⟨rfl, rfl⟩, rfl⟩

/-- TransitionTable: a state that meets the invariant for every row. -/
theorem witness_TransitionTable :
    (Inv State.reset ∧ State.reset.rxState = .hunt) ∧
    Inv { awaiting 0 [] with rxState := .type, rxSum := 0x24 } ∧
    Inv { awaiting 0 [] with rxState := .len, rxType := 0x31, rxSum := 0x55 } ∧
    (Inv (inPayload 4 0 []) ∧ (inPayload 4 0 []).rxCnt.toNat + 1 < (inPayload 4 0 []).rxLen.toNat - 2) ∧
    (Inv (inPayload 3 0 []) ∧ (inPayload 3 0 []).rxCnt.toNat + 1 = (inPayload 3 0 []).rxLen.toNat - 2) ∧
    (Inv (inPayload 0xFF 252 []) ∧ (inPayload 0xFF 252 []).rxCnt.toNat + 1 = (inPayload 0xFF 252 []).rxLen.toNat - 2) ∧
    Inv (inTrailer .csum 0 0x31 []) ∧
    (Inv (inTrailer .endMark 0xBD 0x31 []) ∧ (inTrailer .endMark 0xBD 0x31 []).rxCsum ≠ (inTrailer .endMark 0xBD 0x31 []).rxSum) ∧
    (Inv (inTrailer .endMark 0xBC 0x31 []) ∧ (inTrailer .endMark 0xBC 0x31 []).rxType = (inTrailer .endMark 0xBC 0x31 []).expectedType) ∧
    (Inv (inTrailer .endMark 0xBC 0x13 []) ∧ (inTrailer .endMark 0xBC 0x13 []).rxType ≠ (inTrailer .endMark 0xBC 0x13 []).expectedType) :=
  ⟨⟨inv_reset, rfl⟩, inv_type, inv_len, ⟨inv_not_last_payload, by decide⟩, ⟨inv_only_payload, by decide⟩, ⟨inv_last_payload, by decide⟩,
    inv_csum, ⟨inv_end_bad, by decide⟩, ⟨inv_end_accept, by decide⟩, ⟨inv_end_skip, by decide⟩⟩

theorem witness_ExpectedTypeIsReadOnlyAtEnd : (inTrailer .csum 0 0x31 []).rxState ≠ .endMark := by decide

theorem witness_CorruptFrameIsReportedWhateverExpected : (inTrailer .endMark 0xBD 0x13 []).rxState = .endMark ∧
    (inTrailer .endMark 0xBD 0x13 []).rxCsum ≠ (inTrailer .endMark 0xBD 0x13 []).rxSum := by decide

/-- StepKeepsInvariant, MachineStopsOnlyWhenNobodySteps, ConfigurationNeverChanges, the first clause of
ReceivingAndTransmittingAreApart and the hypotheses of DeliveredFramesAreValidAndExpected. -/
theorem witness_delivering_step : Inv (inTrailer .endMark 0xBC 0x31 [.byte 0x23]) ∧
    (inTrailer .endMark 0xBC 0x31 [.byte 0x23]).inCall = true ∧
    ∃ t : State, step (inTrailer .endMark 0xBC 0x31 [.byte 0x23]) = .next t ∧ t.event = .accept 0x31 [0x64] :=
  ⟨inv_of (by decide), rfl, _, rfl, rfl⟩

theorem witness_host_step : (hostTurn [.encode 0x0B []]).inCall = false ∧
    ∃ t : State, step (hostTurn [.encode 0x0B []]) = .next t := ⟨rfl, _, rfl⟩

theorem witness_LeftoversNeverMatter : Inv (awaiting 0 [.byte 0x24]) ∧
    Inv { awaiting 0 [.byte 0x24] with rxType := 9, rxLen := 200, rxSum := 3, rxBuf := [(7, 1)] } ∧
    SameLive (awaiting 0 [.byte 0x24]) { awaiting 0 [.byte 0x24] with rxType := 9, rxLen := 200, rxSum := 3, rxBuf := [(7, 1)] } ∧
    ∃ t : State, step (awaiting 0 [.byte 0x24]) = .next t :=
  ⟨inv_awaiting _ _, inv_of (by decide),
    by simp [SameLive, awaiting, State.reset], _, rfl⟩

/-- The longest and the shortest frame of the expected type. -/
theorem witness_WellFormedFrameIsAccepted :
    (Inv (awaiting 0x77 (bytesOf (mkFrame 0x77 (List.replicate 253 0)) ++ [.abort])) ∧
      Receiving (awaiting 0x77 (bytesOf (mkFrame 0x77 (List.replicate 253 0)) ++ [.abort])) ∧
      (awaiting 0x77 (bytesOf (mkFrame 0x77 (List.replicate 253 0)) ++ [.abort])).rxState = .hunt ∧
      (List.replicate 253 (0 : Byte)).length ≤ 253 ∧ (awaiting 0x77 []).expectedType = 0x77) ∧
    (awaiting 0x0B (bytesOf [0x24, 0x0B, 0x02, 0x31, 0x23])).rxStream = bytesOf (mkFrame 0x0B []) ++ [] :=
  ⟨⟨inv_awaiting _ _, ⟨rfl, rfl⟩, rfl, le_of_eq List.length_replicate, rfl⟩, by decide⟩

theorem witness_WellFormedFrameOfOtherTypeIsSkipped : Receiving (awaiting 0x13 (bytesOf (mkFrame 0x0D [0x00, 0x2A]) ++ [])) ∧
    (awaiting 0x13 (bytesOf (mkFrame 0x0D [0x00, 0x2A]) ++ [])).rxState = .hunt ∧ (0x0D : Byte) ≠
      (awaiting 0x13 (bytesOf (mkFrame 0x0D [0x00, 0x2A]) ++ [])).expectedType := ⟨⟨rfl, rfl⟩, rfl, by decide⟩

/-- P2: the payload byte `0A` of `24 31 03 0A 62 23` became `0B`; B2.6: its checksum byte became `E2`; its type byte became
`24`, its end byte `24`. -/
theorem witness_OneCorruptByteIsReportedAndResynchronised :
    (([0x0A] : List Byte)[0]? ≠ none ∧ ([0x0A] : List Byte)[0]? ≠ some 0x0B) ∧
    (awaiting 0x31 (bytesOf [0x24, 0x31, 0x03, 0x0B, 0x62, 0x23])).rxStream =
      bytesOf (0x24 :: 0x31 :: BitVec.ofNat 8 (([0x0A] : List Byte).length + 2) :: ([0x0A] : List Byte).set 0 0x0B ++
        [sum8 (frameBody 0x31 [0x0A]), 0x23]) ++ [] ∧
    (0xE2 : Byte) ≠ sum8 (frameBody 0x31 [0x0A]) ∧
    (awaiting 0x31 (bytesOf [0x24, 0x31, 0x03, 0x0A, 0xE2, 0x23])).rxStream = bytesOf (frameBody 0x31 [0x0A] ++ [0xE2, 0x23]) ++ [] ∧
    ((0x24 : Byte) ≠ 0x31 ∧ (awaiting 0x31 (bytesOf [0x24, 0x24, 0x03, 0x0A, 0x62, 0x23])).rxStream =
      bytesOf (frameBody 0x24 [0x0A] ++ [sum8 (frameBody 0x31 [0x0A]), 0x23]) ++ []) ∧
    ((0x24 : Byte) ≠ 0x23 ∧ (awaiting 0x31 (bytesOf [0x24, 0x31, 0x03, 0x0A, 0x62, 0x24])).rxStream =
      bytesOf (frameBody 0x31 [0x0A] ++ [sum8 (frameBody 0x31 [0x0A]), 0x24]) ++ []) ∧
    Receiving (awaiting 0x31 (bytesOf [0x24, 0x31, 0x03, 0x0B, 0x62, 0x23])) :=
  ⟨by decide, by decide, by decide, by decide, by decide, by decide, ⟨rfl, rfl⟩⟩

/-- The response statements: an awaited response of each type. -/
theorem witness_awaited_responses : Awaiting (awaiting 0x0A []) 0x0A ∧ Awaiting (awaiting 0x0C []) 0x0C ∧
    Awaiting (awaiting 0x0D []) 0x0D ∧ Awaiting (awaiting 0x11 []) 0x11 ∧ Awaiting (awaiting 0x13 []) 0x13 ∧
    Awaiting (awaiting 0x31 []) 0x31 :=
  ⟨awaiting_ok _, awaiting_ok _, awaiting_ok _, awaiting_ok _, awaiting_ok _, awaiting_ok _⟩

/-- CalibrationStageIsJudged: a running sequence, with stages at the edges of its three clauses, and no sequence. -/
theorem witness_CalibrationStageIsJudged :
    Awaiting { awaiting 0x31 [] with session := { State.reset.session with calib := .running [10] } } 0x31 ∧
    ((0xFE : Byte) ≠ 100 ∧ (0xFE : Byte) ≠ 255 ∧ (0x65 : Byte) ≠ 100 ∧ (0x65 : Byte) ≠ 255) ∧
    (∀ ps, (awaiting 0x31 []).session.calib ≠ .running ps) :=
  ⟨⟨inv_of (by decide), ⟨rfl, rfl⟩, rfl, rfl⟩, by decide, fun ps h => by cases h⟩

theorem witness_UnexpectedResponseIsSkipped : Inv (awaiting 0x0A []) ∧ (awaiting 0x0A []).rxState = .hunt ∧
    encode (.setidRsp 42) = .frame .rx (mkFrame 0x0D (bytes16 42)) ∧ (0x0D : Byte) ≠ (awaiting 0x0A []).expectedType :=
  ⟨inv_awaiting _ _, rfl, rfl, by decide⟩

/-- In the middle of another frame. -/
theorem witness_ResponseFramesRunAnywhere : Inv (inPayload 0xFF 252 []) ∧
    encode (.setidRsp 42) = .frame .rx (mkFrame 0x0D (bytes16 42)) := ⟨inv_last_payload, rfl⟩

/-- DecodeNextAgreesWithSteps: a call that returns and a call that blocks. -/
theorem witness_DecodeNextAgreesWithSteps :
    HostTurn (hostTurn [.decodeNext 0x0B]) ∧
    (∃ t : State, decodeNext 0x0B { hostTurn [] with rxStream := bytesOf [0x24, 0x0B, 0x02, 0x31, 0x23] } = .next t) ∧
    decodeNext 0x0B { hostTurn [] with rxStream := bytesOf [0x24, 0x0B] } = .fault .awaitingInput := ⟨⟨rfl, rfl, rfl⟩, ⟨_, rfl⟩, rfl⟩

theorem witness_SubtypeSelectsVariant : HostTurn (hostTurn [.sdec [0x03]]) ∧ (hostTurn [.sdec [0x03]]).hostCalls = .sdec [0x03] :: [] :=
  ⟨⟨rfl, rfl, rfl⟩, rfl⟩

/-- SdecIntermediates and the other sample statements: the layout lengths and their neighbours (B3.4 to B3.7). -/
theorem witness_sample_lengths : payloadS1.length = 91 ∧ payloadS2.length = 87 ∧
    (([0x03] : List Byte) ++ List.replicate 89 0).length ≠ 91 ∧ (([0x03] : List Byte) ++ List.replicate 91 0).length ≠ 91 ∧
    (List.replicate 86 (0 : Byte)).length ≠ 87 ∧ ([] : List Byte).length ≠ 87 := by decide

/-- UnusedTailValuesAreIgnored: S1 with another `T[11]`, S2 with another `T[13]`; both decode. -/
theorem witness_UnusedTailValuesAreIgnored :
    ((payloadS1.set 65 0xFF).length = 91 ∧ (∀ o, o ≠ 65 → o ≠ 66 → o ≠ 69 → o ≠ 70 → payloadS1[o]? = (payloadS1.set 65 0xFF)[o]?)) ∧
    ((payloadS2.set 66 0xFF).length = 87 ∧ (∀ o, o ≠ 61 → o ≠ 62 → o ≠ 65 → o ≠ 66 → payloadS2[o]? = (payloadS2.set 66 0xFF)[o]?)) ∧
    (∃ t : State, exec (.sdecRaw payloadS1) State.reset = .next t) ∧ (∃ t : State, exec (.sdecQuat payloadS2) State.reset = .next t) :=
  ⟨⟨by decide, fun o h _ _ _ => (List.getElem?_set_ne (Ne.symm h)).symm⟩,
    ⟨by decide, fun o _ _ _ h => (List.getElem?_set_ne (Ne.symm h)).symm⟩, ⟨_, rfl⟩, ⟨_, rfl⟩⟩

/-- DyadicValuesRenderExactly: the two ends of the normal range, which are binary64 values, and a value between. -/
theorem witness_normal_range : ((2 : Rat) ^ (-1022 : Int) ≤ |(2 : Rat) ^ (-1022 : Int)| ∧ IsBinary64 ((2 : Rat) ^ (-1022 : Int))) ∧
    (|((2 ^ 53 - 1) * (2 : Rat) ^ (971 : Int))| ≤ (2 ^ 53 - 1) * (2 : Rat) ^ (971 : Int) ∧
      IsBinary64 ((2 ^ 53 - 1) * (2 : Rat) ^ (971 : Int))) ∧
    (2 : Rat) ^ (-1022 : Int) ≤ |(1 : Rat)| ∧ |(1 : Rat)| ≤ (2 ^ 53 - 1) * (2 : Rat) ^ (971 : Int) := by
  refine ⟨⟨le_abs_self _, 1, -1022, by norm_num, by norm_num, by norm_num, by norm_num⟩,
    ⟨le_of_eq (abs_of_nonneg (by positivity)), 2 ^ 53 - 1, 971, by norm_num, by norm_num, by norm_num, by norm_num⟩, ?_, ?_⟩
  · rw [abs_one]; exact zpow_le_one_of_nonpos₀ (by norm_num) (by norm_num)
  · rw [abs_one]; exact one_le_mul_of_one_le_of_one_le (by norm_num) (one_le_zpow₀ (by norm_num) (by norm_num))

/-- RenderingFollowsNum, the roundings: the ends of the raw values' ranges. -/
theorem witness_raw_ranges : 0 < 2 ^ 32 ∧ 2 ^ 32 - 1 < 2 ^ 32 ∧ 0 < 2 ^ 16 ∧ 2 ^ 16 - 1 < 2 ^ 16 := by decide

/-- DyadicValuesRenderExactly and BinaryPatternsMeanTheirValue. -/
theorem witness_DyadicValuesRenderExactly : ((2 : Int) ^ 53 - 1).natAbs < 2 ^ 53 ∧ (-(2 : Int) ^ 53 + 1).natAbs < 2 ^ 53 ∧
    (2 : Int) ^ 53 - 1 ≠ 0 ∧ 0 ≤ 1000 ∧ 1000 ≤ 1000 := by decide

/-- RenderingFollowsNum: both variants; both formats are values of the configuration; reset has binary64. -/
theorem witness_RenderingFollowsNum : payloadS1.length = 91 ∧ payloadS2.length = 87 ∧ State.reset.cfg.num = .binary64 ∧
    { State.reset with cfg := { Config.initial with num := .exact } }.cfg.num = .exact := by decide

/-- StepRunsTheDecodedInstruction: one state for each source of packets. -/
theorem witness_StepRunsTheDecodedInstruction :
    (fetch (awaiting 0 [.byte 0x24]) = .packet (.rxByte .hunt 0x24) (awaiting 0 []) ∧ decode (.rxByte .hunt 0x24) = .ok .rxSof) ∧
    (Receiving (awaiting 0 [.abort]) ∧ (awaiting 0 [.abort]).rxStream = .abort :: []) ∧
    (Receiving (awaiting 0 [.frame (mkFrame 0x0D [0, 42])]) ∧ decode (.frame .rx (mkFrame 0x0D [0, 42])) = .ok (.setidRsp 42)) ∧
    (HostTurn (hostTurn [.send (mkFrame 0x0B [])]) ∧ decode (.frame .tx (mkFrame 0x0B [])) = .ok .stop) ∧
    (HostTurn (hostTurn [.encode 0x0B []]) ∧ (hostTurn [.encode 0x0B []]).hostCalls = .encode 0x0B [] :: []) :=
  ⟨⟨rfl, rfl⟩, ⟨⟨rfl, rfl⟩, rfl⟩, ⟨⟨rfl, rfl⟩, by decide⟩, ⟨⟨rfl, rfl, rfl⟩, by decide⟩, ⟨⟨rfl, rfl, rfl⟩, rfl⟩⟩

/-- The end of the entry in progress comes after two calls that a failed entry does not make. -/
def failedEntry : State :=
  { hostTurn [.decodeNext 0x55, .sdecLast, .seqEnd, .settle] with
    results := [.frame [], .error .timeoutError]
    session := { State.reset.session with seq := some { connecting := false, start := 1 } } }

/-- HostActionsStep: the host's turn, for each of its clauses. -/
theorem witness_HostActionsStep : (∀ cs, HostTurn (hostTurn cs)) ∧ (hostTurn [.decodeNext 0x0A]).hostCalls = .decodeNext 0x0A :: [] ∧
    (hostTurn [.writeExpected 0x0A]).hostCalls = .writeExpected 0x0A :: [] ∧ (hostTurn [.settle]).hostCalls = .settle :: [] ∧
    (hostTurn [.close]).hostCalls = .close :: [] ∧
    (HostTurn { hostTurn [.sdecLast] with results := [.payload payloadS1] } ∧
      { hostTurn [.sdecLast] with results := [.payload payloadS1] }.results.getLast? = some (.payload payloadS1)) ∧
    (∀ P, (hostTurn [.sdecLast]).results.getLast? ≠ some (.payload P)) ∧
    { State.reset.session with calib := Calib.running [10] }.calib = .running [10] ∧
    (∀ ps, (hostTurn [.calibLoop]).session.calib ≠ .running ps) ∧
    ((hostTurn [.seqBegin true]).hostCalls = .seqBegin true :: [] ∧ (hostTurn [.seqEnd]).hostCalls = .seqEnd :: []) :=
  ⟨fun _ => ⟨rfl, rfl, rfl⟩, rfl, rfl, rfl, rfl, ⟨⟨rfl, rfl, rfl⟩, rfl⟩, fun P h => by simp [hostTurn, State.reset] at h,
    rfl, fun ps h => by simp [hostTurn, State.reset] at h, rfl, rfl⟩

/-- HostActionsStep, the entry that failed. -/
theorem witness_HostActionsStep_failed : failedEntry.session.isOpen = true ∧ failedEntry.inCall = false ∧
    failedEntry.session.seq = some { connecting := false, start := 1 } ∧ 1 ≤ [Result.frame []].length ∧
    failedEntry.results = [.frame []] ++ [.error .timeoutError] ∧ HostCall.seqEnd ∉ [HostCall.decodeNext 0x55, .sdecLast] ∧
    failedEntry.hostCalls = [.decodeNext 0x55, .sdecLast] ++ .seqEnd :: [.settle] :=
  ⟨rfl, rfl, rfl, by decide, rfl, by decide, rfl⟩

end Sys2Proof.Tests
end

section
/-! PROOFS. The two readings every frame rests on: the checksum as arithmetic modulo 256 (R8, R44) and the fields of a
payload as big-endian numbers, signed by two's complement (R8, R30). -/

open Sys2Proof Sys2Proof.Machine Sys2Proof.Claims

namespace Sys2Proof.FieldsAndChecksum

/-! ### The checksum -/

/-- `sum8` of the empty sequence (R8). -/
@[simp] theorem sum8_nil : sum8 [] = 0 := rfl

/-- `sum8` adds the first byte to the sum of the others (R8). -/
@[simp] theorem sum8_cons (b : Byte) (s : List Byte) : sum8 (b :: s) = b + sum8 s := rfl

/-- `sum8` is the sum of the bytes modulo 256 (R8). -/
theorem sum8_toNat (s : List Byte) : (sum8 s).toNat = (s.map BitVec.toNat).sum % 256 := by
  induction s with
  | nil => rfl
  | cons b s ih => simp [BitVec.toNat_add, ih]

/-- Two sequences that differ at most in one byte have the same `sum8` exactly when that byte is the same (R44): addition
modulo 256 can be cancelled on both sides of the byte. -/
theorem sum8_replace_eq_iff {a c : List Byte} {b b' : Byte} : sum8 (a ++ b :: c) = sum8 (a ++ b' :: c) ↔ b = b' := by
  rw [sum8_append, sum8_append, sum8_cons, sum8_cons, BitVec.add_right_inj, BitVec.add_left_inj]

/-- `sum8` does not see the order of two neighbouring bytes (R44): addition commutes. -/
theorem sum8_swap (a c : List Byte) (b b' : Byte) : sum8 (a ++ b :: b' :: c) = sum8 (a ++ b' :: b :: c) := by
  have swap : b + (b' + sum8 c) = b' + (b + sum8 c) := by
    rw [← BitVec.add_assoc, ← BitVec.add_assoc, BitVec.add_comm b b']
  simp only [sum8_append, sum8_cons, swap]

/-- Settles O6: the sum modulo 256 by induction on the sequence, the other two by cancelling and commuting its terms. -/
theorem checksumSumsAndDetectsOneByte : Obligations.ChecksumSumsAndDetectsOneByte :=
  ⟨sum8_toNat, fun _ _ _ _ hne heq => hne (sum8_replace_eq_iff.mp heq), sum8_swap⟩

/-! ### The fields -/

/-- A byte put after a word is the word's least significant one: big-endian order (R8, R28). -/
theorem toNat_append_byte {w : Nat} (x : BitVec w) (b : Byte) : (x ++ b).toNat = x.toNat * 256 + b.toNat := by
  rw [BitVec.toNat_append, ← Nat.shiftLeft_add_eq_or_of_lt b.isLt, Nat.shiftLeft_eq]

/-- `MemRead(o, 1)` is the byte at `o` (R30). -/
theorem memRead8_eq_getD (P : List Byte) (o : Nat) (h : o + 1 ≤ P.length) : memRead8 P o h = P.getD o 0 :=
  List.getElem_eq_getD 0

/-- `MemRead(o, 2)` is `be16(P, o)` (R8, R30). -/
theorem memRead16_toNat (P : List Byte) (o : Nat) (h : o + 2 ≤ P.length) : (memRead16 P o h).toNat = u16 P o := by
  simp only [memRead16, u16, toNat_append_byte, List.getElem_eq_getD (0 : Byte)]

/-- `MemRead(o, 4)` is `be32(P, o)` (R8, R30). -/
theorem memRead32_toNat (P : List Byte) (o : Nat) (h : o + 4 ≤ P.length) : (memRead32 P o h).toNat = u32 P o := by
  simp only [memRead32, u32, toNat_append_byte, List.getElem_eq_getD (0 : Byte)]
  omega

/-- `sext_16` (R8): a reading of 2^15 or more stands for itself less 2^16. -/
theorem sext16_eq (v : Half) : sext16 v = if v.toNat < 32768 then (v.toNat : Int) else (v.toNat : Int) - 65536 := by
  rw [sext16, BitVec.toInt_eq_toNat_cond]
  split <;> split <;> omega

/-- `sext_32` (R8): a reading of 2^31 or more stands for itself less 2^32. -/
theorem sext32_eq (v : Long) :
    sext32 v = if v.toNat < 2147483648 then (v.toNat : Int) else (v.toNat : Int) - 4294967296 := by
  rw [sext32, BitVec.toInt_eq_toNat_cond]
  split <;> split <;> omega

/-- The signed reading of a two-byte field is `sext_16(be16(P, o))` (R8, R30). -/
theorem sext16_memRead16 (P : List Byte) (o : Nat) (h : o + 2 ≤ P.length) : sext16 (memRead16 P o h) = s16 P o := by
  rw [sext16_eq, memRead16_toNat, s16]

/-- The signed reading of a four-byte field is `sext_32(be32(P, o))` (R8, R30). -/
theorem sext32_memRead32 (P : List Byte) (o : Nat) (h : o + 4 ≤ P.length) : sext32 (memRead32 P o h) = s32 P o := by
  rw [sext32_eq, memRead32_toNat, s32]

/-- Settles O7, field width by field width: the big-endian number first, its sign from that. -/
theorem fieldReadsAreBigEndian : Obligations.FieldReadsAreBigEndian :=
  ⟨fun P o h => congrArg BitVec.toNat (memRead8_eq_getD P o h),
    fun P o h => ⟨memRead16_toNat P o h, sext16_memRead16 P o h⟩,
    fun P o h => ⟨memRead32_toNat P o h, sext32_memRead32 P o h⟩⟩

end Sys2Proof.FieldsAndChecksum
end

section
/-! PROOFS. What one step of the machine is, said once: outside a `DecodeNext` one action of the host, inside one the items
of `RX_STREAM` consumed one by one (R12, R37, R80). Which action it is depends on nothing that reset leaves unspecified. -/

open Sys2Proof Sys2Proof.Machine Sys2Proof.Claims

namespace Sys2Proof.StepKeeps

open Host (Outcome)

/-! ### What a fetch leads to -/

/-- The step of a fetched item. -/
def runFetched : Fetched → Outcome State Fault Refusal
  | .stuck f => .fault f
  | .quiet s => .next s
  | .packet pk s => match decode pk with
    | .ok i => exec i s
    | .error e => .refused (.undecodable e)

theorem step_eq_runFetched (s : State) : step s = runFetched (fetch s) := rfl

@[simp] theorem runFetched_stuck (f : Fault) : runFetched (.stuck f) = .fault f := rfl

@[simp] theorem runFetched_quiet (s : State) : runFetched (.quiet s) = .next s := rfl

theorem runFetched_packet {pk : Packet} {i : Instr} (s : State) (h : decode pk = .ok i) :
    runFetched (.packet pk s) = exec i s := by
  simp [runFetched, h]

@[simp] theorem runFetched_rxByte (q : RxState) (b : Byte) (s : State) :
    runFetched (.packet (.rxByte q b) s) = exec (decodeRxByte q b) s := rfl

@[simp] theorem runFetched_abort (s : State) : runFetched (.packet .abort s) = execAbort s := rfl

@[simp] theorem runFetched_encode (ty : Byte) (p : List Byte) (s : State) :
    runFetched (.packet (.encode ty p) s) = .next (transmit ty p id s) := rfl

@[simp] theorem runFetched_sdec (P : List Byte) (s : State) :
    runFetched (.packet (.sdec P) s) = exec (decodeSdec P) s := rfl

/-- A step is possible only in an open session (R159). -/
theorem isOpen_of_step {s t : State} (h : step s = .next t) : s.session.isOpen = true := by
  by_contra hclosed
  simp [step_eq_runFetched, fetch, hclosed] at h

theorem step_of_receiving {s : State} (hr : Receiving s) : step s = runFetched (fetchRx s) := by
  simp [step_eq_runFetched, fetch, hr.1, hr.2]

theorem step_of_hostTurn {s : State} (ht : HostTurn s) : step s = runFetched (fetchCall s) := by
  obtain ⟨hopen, hcall, hseq⟩ := ht
  simp [step_eq_runFetched, fetch, fetchHost, hopen, hcall, hseq]

/-- Past an entry of the host's surface that failed (R140). -/
theorem step_of_seqFailed {s : State} (hopen : s.session.isOpen = true) (hcall : s.inCall = false)
    (hseq : s.seqFailed = true) : step s = .next ((s.setCalls (afterSeq s.hostCalls)).setSeq none) := by
  simp [step_eq_runFetched, fetch, fetchHost, hopen, hcall, hseq]

/-! ### Instructions by what they run -/

/-- The host's record changed by `f`. -/
def mapSession (f : Session → Session) (s : State) : State := s.setSession (f s.session)

theorem mapSession_id : mapSession id = id := rfl

/-- What the host notes of a request it sent (R106 to R108, R111, R122, R124). -/
def noteOfRequest : Instr → Session → Session
  | .smodeQuat => fun ss => { ss with mode := .quaternion }
  | .smodeRaw => fun ss => { ss with mode := .raw }
  | .stop => fun ss => { ss with mode := .off }
  | .calibStart => fun ss => { ss with calib := .running [] }
  | .poweroff => fun ss => { ss with isOpen := false }
  | _ => id

/-- The instruction transmits one frame and notes it in the host's record. -/
def Transmits (i : Instr) : Prop :=
  ∃ ty p, ∀ s, exec i s = .next (transmit ty p (mapSession (noteOfRequest i)) s)

/-- The instruction passes a run of bytes through the decoder. -/
def Receives (i : Instr) : Prop := ∃ F, ∀ s, exec i s = receive F s

/-- `P` holds of the instruction that a row search answers, if it answers one. -/
def OnOk (P : Instr → Prop) : Except DecodeError Instr → Prop
  | .ok i => P i
  | .error _ => True

theorem OnOk.ite {P : Instr → Prop} {c : Prop} [Decidable c] {x y : Except DecodeError Instr} (hx : OnOk P x)
    (hy : OnOk P y) : OnOk P (if c then x else y) := by
  split <;> assumption

theorem OnOk.dite {P : Instr → Prop} {c : Prop} [Decidable c] {x : c → Except DecodeError Instr}
    {y : ¬c → Except DecodeError Instr} (hx : ∀ h, OnOk P (x h)) (hy : ∀ h, OnOk P (y h)) :
    OnOk P (if h : c then x h else y h) := by
  split
  · exact hx _
  · exact hy _

theorem OnOk.of_eq {P : Instr → Prop} {x : Except DecodeError Instr} {i : Instr} (hx : OnOk P x) (h : x = .ok i) : P i := by
  subst h
  exact hx

/-- Every host-to-glove row transmits (R106 to R125): the search is a chain of tests, each of which ends at a row. -/
theorem decodeTx_transmits (ty : Byte) (p : List Byte) : OnOk Transmits (decodeTx ty p) := by
  unfold decodeTx
  repeat' first | apply OnOk.ite | apply OnOk.dite <;> intro _
  all_goals first | exact trivial | exact ⟨_, _, fun _ => rfl⟩

/-- Every glove-to-host row is received (R109 to R123). -/
theorem decodeRx_receives (ty : Byte) (p : List Byte) : OnOk Receives (decodeRx ty p) := by
  unfold decodeRx
  repeat' first | apply OnOk.ite | apply OnOk.dite <;> intro _
  all_goals first | exact trivial | exact ⟨_, fun _ => rfl⟩

theorem transmits_of_decode {F : List Byte} {i : Instr} (h : decode (.frame .tx F) = .ok i) : Transmits i := by
  simp only [decode] at h
  split at h
  · cases h
  · exact OnOk.of_eq (decodeTx_transmits _ _) h

theorem receives_of_decode {F : List Byte} {i : Instr} (h : decode (.frame .rx F) = .ok i) : Receives i := by
  simp only [decode] at h
  split at h
  · cases h
  · exact OnOk.of_eq (decodeRx_receives _ _) h

theorem execSdecRaw_of_length {P : List Byte} (h : P.length = 91) (s : State) :
    exec (.sdecRaw P) s = .next (s.setSample (unpackRaw P h)) := by
  simp [exec, execSdecRaw, h]

theorem execSdecQuat_of_length {P : List Byte} (h : P.length = 87) (s : State) :
    exec (.sdecQuat P) s = .next (s.setSample (unpackQuat P h)) := by
  simp [exec, execSdecQuat, h]

/-! ### The visible part of a state -/

/-- The state without the registers that only a frame in progress gives a meaning to (R14, R15, R23), and without
`EXPECTED_TYPE` where no `DecodeNext` reads it (R80). -/
def visible (s : State) : State :=
  { s with
    rxCnt := 0, rxType := 0, rxLen := 0, rxSum := 0, rxCsum := 0, rxBuf := []
    expectedType := if s.inCall then s.expectedType else 0 }

/-- The clauses of `SameLive` on the registers of the frame in progress. -/
def SameInFrame (s t : State) : Prop :=
  (s.rxState ≠ .hunt → t.rxSum = s.rxSum) ∧ (s.rxState ≠ .hunt → s.rxState ≠ .type → t.rxType = s.rxType) ∧
    (s.rxState = .payload ∨ s.rxState = .csum ∨ s.rxState = .endMark →
      t.rxLen = s.rxLen ∧ t.rxCnt = s.rxCnt ∧ t.payloadSoFar = s.payloadSoFar) ∧
    (s.rxState = .endMark → t.rxCsum = s.rxCsum)

theorem SameInFrame.of_hunt {s t : State} (h : s.rxState = .hunt) : SameInFrame s t := by
  simp [SameInFrame, h]

theorem visible_eq_iff {s t : State} : visible t = visible s ↔
    t.rxState = s.rxState ∧ (s.inCall = true → t.expectedType = s.expectedType) ∧ t.event = s.event ∧
    t.rxStream = s.rxStream ∧ t.txStream = s.txStream ∧ t.writeTimeouts = s.writeTimeouts ∧
    t.timedOutWrites = s.timedOutWrites ∧ t.sdecRegs = s.sdecRegs ∧ t.sample = s.sample ∧ t.rendered = s.rendered ∧
    t.inCall = s.inCall ∧ t.hostCalls = s.hostCalls ∧ t.results = s.results ∧ t.session = s.session ∧ t.cfg = s.cfg := by
  simp only [visible, State.mk.injEq, true_and]
  grind

/-- `SameLive` is agreement on the visible part and on the frame in progress. -/
theorem sameLive_iff {s t : State} : SameLive s t ↔ SameInFrame s t ∧ visible t = visible s := by
  rw [visible_eq_iff, SameInFrame, SameLive]
  tauto

/-! ### A step outside a call -/

/-- What the host does in one step, past its call. -/
inductive HostAction where
  | nothing
  | note (f : Session → Session)
  | startCall (e : Byte)
  | setExpected (e : Byte)
  | transmit (ty : Byte) (p : List Byte) (f : Session → Session)
  | setSample (r : SdecRegs)
  | addResult (r : Result)

/-- The state after an action of the host, in the operations of the model. -/
@[simp] def HostAction.run : HostAction → State → State
  | .nothing => id
  | .note f => mapSession f
  | .startCall e => State.startCall e
  | .setExpected e => State.setExpected e
  | .transmit ty p f => Machine.transmit ty p (mapSession f)
  | .setSample r => State.setSample r
  | .addResult r => State.addResult r

/-- `SDEC` is an action of the host; which one depends on the payload alone (R85, R86). -/
theorem exec_decodeSdec (P : List Byte) :
    ∃ a : HostAction, ∀ s, exec (decodeSdec P) s = .next (a.run s) := by
  unfold decodeSdec
  split
  · by_cases h : P.length = 91
    · exact ⟨.setSample (unpackRaw P h), execSdecRaw_of_length h⟩
    · exact ⟨.addResult (.error (.sampleLengthError P.length)), fun s => by simp [exec, execSdecRaw, h, raise]⟩
  · by_cases h : P.length = 87
    · exact ⟨.setSample (unpackQuat P h), execSdecQuat_of_length h⟩
    · exact ⟨.addResult (.error (.sampleLengthError P.length)), fun s => by simp [exec, execSdecQuat, h, raise]⟩

/-- The decoder's registers, its buffer, its event and `RX_STREAM` are as before. -/
def SameDecoder (s t : State) : Prop :=
  t.rxState = s.rxState ∧ t.rxCnt = s.rxCnt ∧ t.rxType = s.rxType ∧ t.rxLen = s.rxLen ∧ t.rxSum = s.rxSum ∧
    t.rxCsum = s.rxCsum ∧ t.rxBuf = s.rxBuf ∧ t.event = s.event ∧ t.rxStream = s.rxStream

/-- Every case of `transmit` (R60, R61, R63) as one of three updates. -/
theorem transmit_cases (ty : Byte) (p : List Byte) (noted : State → State) (s : State) :
    transmit ty p noted s = s.timeOutWrite (mkFrame ty p) ∨
    transmit ty p noted s = noted ((s.nextWrite.appendTx (mkFrame ty p)).addResult (.frame (mkFrame ty p))) ∨
    transmit ty p noted s = s.addResult (.error (.encodeLengthError p.length)) := by
  unfold transmit
  split
  · split
    · exact .inl rfl
    · exact .inr (.inl rfl)
  · exact .inr (.inr rfl)

/-- The host owns neither the decoder nor the configuration (R12, R16, R84). -/
theorem HostAction.frame (a : HostAction) (s : State) : SameDecoder s (a.run s) ∧ (a.run s).cfg = s.cfg := by
  cases a with
  | transmit ty p f =>
    rcases transmit_cases ty p (mapSession f) s with h | h | h <;> simp [h, SameDecoder, mapSession]
  | _ => simp [SameDecoder, mapSession]

/-- What is visible after a host's action follows from what was visible before it. -/
theorem HostAction.visible_congr (a : HostAction) {s t : State} (hst : visible t = visible s) :
    visible (a.run t) = visible (a.run s) := by
  rw [visible_eq_iff] at hst ⊢
  cases a with
  | transmit ty p f =>
    have hwrite : t.writeTimesOut = s.writeTimesOut := by simp_all [State.writeTimesOut]
    simp only [HostAction.run, Machine.transmit, hwrite]
    split
    · split <;> simp_all [mapSession]
    · simp_all [raise]
  | setSample r => simp_all [State.setSample]
  | _ => simp_all [mapSession]

/-- What the choice of the next call reads: the call in progress, the calls to come, the results and the host's record. -/
structure SameTurn (s t : State) : Prop where
  inCall : t.inCall = s.inCall
  hostCalls : t.hostCalls = s.hostCalls
  results : t.results = s.results
  session : t.session = s.session

theorem SameTurn.of_visible {s t : State} (hst : visible t = visible s) : SameTurn s t := by
  obtain ⟨-, -, -, -, -, -, -, -, -, -, hcall, hcalls, hres, hsess, -⟩ := visible_eq_iff.mp hst
  exact ⟨hcall, hcalls, hres, hsess⟩

theorem SameTurn.seqFailed_eq {s t : State} (h : SameTurn s t) : t.seqFailed = s.seqFailed := by
  simp [State.seqFailed, h.results, h.session]

theorem SameTurn.lastPayload_eq {s t : State} (h : SameTurn s t) : lastPayload t = lastPayload s := by
  simp [lastPayload, h.results]

theorem SameTurn.hostTurn {s t : State} (h : SameTurn s t) (hs : HostTurn s) : HostTurn t := by
  rwa [HostTurn, h.session, h.inCall, h.seqFailed_eq]

/-- The host's next call is one action, the same from every state with the same calls, results and record (R143): the case
split is the list of the calls. -/
theorem fetchCall_action {s t : State} (h : runFetched (fetchCall s) = .next t) :
    ∃ (a : HostAction) (cs : List HostCall), ∀ u, SameTurn s u →
      runFetched (fetchCall u) = .next (a.run (u.setCalls cs)) := by
  cases hs : s.hostCalls with
  | nil => simp [fetchCall, hs] at h
  | cons c cs =>
    have calls : ∀ u, SameTurn s u → u.hostCalls = c :: cs := fun u hu => hu.hostCalls.trans hs
    cases c with
    | send F =>
      cases hd : decode (.frame .tx F) with
      | error e => simp [fetchCall, hs, runFetched, hd] at h
      | ok i =>
        obtain ⟨ty, p, hexec⟩ := transmits_of_decode hd
        exact ⟨.transmit ty p (noteOfRequest i), cs, fun u hu => by
          simp [fetchCall, calls u hu, runFetched_packet _ hd, hexec]⟩
    | encode ty p =>
      exact ⟨.transmit ty p id, cs, fun u hu => by simp [fetchCall, calls u hu, mapSession_id]⟩
    | decodeNext e => exact ⟨.startCall e, cs, fun u hu => by simp [fetchCall, calls u hu]⟩
    | sdec P =>
      obtain ⟨a, hexec⟩ := exec_decodeSdec P
      exact ⟨a, cs, fun u hu => by simp [fetchCall, calls u hu, hexec]⟩
    | sdecLast =>
      cases hlast : lastPayload s with
      | none => exact ⟨.nothing, cs, fun u hu => by simp [fetchCall, calls u hu, hu.lastPayload_eq, hlast]⟩
      | some P =>
        obtain ⟨a, hexec⟩ := exec_decodeSdec P
        exact ⟨a, cs, fun u hu => by simp [fetchCall, calls u hu, hu.lastPayload_eq, hlast, hexec]⟩
    | calibLoop =>
      cases hcalib : s.session.calib with
      | running ps =>
        exact ⟨.nothing, .decodeNext tyCalib :: .calibLoop :: cs, fun u hu => by
          simp [fetchCall, calls u hu, hu.session, hcalib]⟩
      | _ => exact ⟨.nothing, cs, fun u hu => by simp [fetchCall, calls u hu, hu.session, hcalib]⟩
    | writeExpected e => exact ⟨.setExpected e, cs, fun u hu => by simp [fetchCall, calls u hu]⟩
    | settle => exact ⟨.nothing, cs, fun u hu => by simp [fetchCall, calls u hu]⟩
    | close =>
      exact ⟨.note fun ss => { ss with isOpen := false }, cs, fun u hu => by
        simp [fetchCall, calls u hu, mapSession, State.closeSession]⟩
    | seqBegin c =>
      exact ⟨.note fun ss => { ss with seq := some { connecting := c, start := s.results.length } }, cs, fun u hu => by
        simp [fetchCall, calls u hu, hu.results, mapSession, State.setSeq]⟩
    | seqEnd =>
      exact ⟨.note fun ss => { ss with seq := none }, cs, fun u hu => by
        simp [fetchCall, calls u hu, mapSession, State.setSeq]⟩

/-- A step outside a `DecodeNext` is one action of the host, and every state with the same visible part does the same
(R12): past an entry of its surface that failed, or its next call. -/
theorem hostStep_action {s t : State} (hcall : s.inCall = false) (h : step s = .next t) :
    ∃ (a : HostAction) (cs : List HostCall), ∀ u, visible u = visible s → step u = .next (a.run (u.setCalls cs)) := by
  have hopen := isOpen_of_step h
  cases hseq : s.seqFailed with
  | true =>
    refine ⟨.note fun ss => { ss with seq := none }, afterSeq s.hostCalls, fun u hu => ?_⟩
    have same := SameTurn.of_visible hu
    rw [step_of_seqFailed (same.session ▸ hopen) (same.inCall.trans hcall) (same.seqFailed_eq.trans hseq), same.hostCalls]
    rfl
  | false =>
    have turn : HostTurn s := ⟨hopen, hcall, hseq⟩
    rw [step_of_hostTurn turn] at h
    obtain ⟨a, cs, hrun⟩ := fetchCall_action h
    refine ⟨a, cs, fun u hu => ?_⟩
    have same := SameTurn.of_visible hu
    rw [step_of_hostTurn (same.hostTurn turn), hrun u same]

/-! ### A step inside a call -/

/-- What the decoder does in one step, past the item of `RX_STREAM`. -/
inductive RxAction where
  | receive (F : List Byte)
  | abort
  | expand (items : List RxItem)

/-- The outcome of an action of the decoder, in the operations of the model. -/
@[simp] def RxAction.run : RxAction → State → Outcome State Fault Refusal
  | .receive F => Machine.receive F
  | .abort => execAbort
  | .expand items => fun s => .next (s.setStream items)

/-- One byte is a run of one byte: nothing is left over (R80). -/
theorem receive_singleton (b : Byte) (s : State) : receive [b] s = rxStep b s := by
  cases h : rxStep b s with
  | next s' => by_cases he : s'.event = .none <;> simp [receive, h, he, State.setStream]
  | _ => simp [receive, h]

/-- Which action an item at the head of `RX_STREAM` causes does not depend on the state (R65, R77, R80). -/
theorem rxItem_action (item : RxItem) (rest : List RxItem) :
    ∃ a : RxAction, ∀ u, Receiving u → u.rxStream = item :: rest → step u = a.run (u.setStream rest) := by
  cases item with
  | byte b =>
    refine ⟨.receive [b], fun u hu hs => ?_⟩
    rw [step_of_receiving hu, RxAction.run, receive_singleton, rxStep_eq_exec]
    simp [fetchRx, hs]
  | abort => exact ⟨.abort, fun u hu hs => by simp [step_of_receiving hu, fetchRx, hs]⟩
  | frame F =>
    cases hd : decode (.frame .rx F) with
    | ok i =>
      obtain ⟨F', hexec⟩ := receives_of_decode hd
      exact ⟨.receive F', fun u hu hs => by
        simp [step_of_receiving hu, fetchRx, hs, hd, runFetched_packet _ hd, hexec]⟩
    | error e =>
      exact ⟨.expand (F.map RxItem.byte ++ rest), fun u hu hs => by
        simp [step_of_receiving hu, fetchRx, hs, hd, State.setStream]⟩

/-- With nothing in `RX_STREAM` the call blocks (R80). -/
theorem step_of_rxStream_nil {s : State} (hr : Receiving s) (hs : s.rxStream = []) : step s = .fault .awaitingInput := by
  simp [step_of_receiving hr, fetchRx, hs]

/-- A step inside a `DecodeNext` is one action of the decoder, and every state that receives the same stream does the same
(R80). -/
theorem receivingStep_action {s t : State} (hcall : s.inCall = true) (h : step s = .next t) :
    ∃ (a : RxAction) (rest : List RxItem), a.run (s.setStream rest) = .next t ∧
      ∀ u, Receiving u → u.rxStream = s.rxStream → step u = a.run (u.setStream rest) := by
  have hr : Receiving s := ⟨isOpen_of_step h, hcall⟩
  cases hs : s.rxStream with
  | nil => simp [step_of_rxStream_nil hr hs] at h
  | cons item rest =>
    obtain ⟨a, hstep⟩ := rxItem_action item rest
    exact ⟨a, rest, (hstep s hr hs).symm.trans h, hstep⟩

theorem execAbort_sameOutsideRx {s t : State} (h : execAbort s = .next t) : SameOutsideRx s t := by
  rw [execAbort, raise_timeoutError] at h
  cases h
  exact ⟨rfl, rfl, rfl, rfl, rfl, rfl, rfl, rfl, rfl⟩

/-- Receiving touches nothing that the host or `SDEC` owns (R84). -/
theorem RxAction.sameOutsideRx {a : RxAction} {s t : State} (h : a.run s = .next t) : SameOutsideRx s t := by
  cases a with
  | receive F => exact receive_sameOutsideRx h
  | abort => exact execAbort_sameOutsideRx h
  | expand items => cases h; exact SameOutsideRx.refl s

theorem receivingStep_sameOutsideRx {s t : State} (hcall : s.inCall = true) (h : step s = .next t) :
    SameOutsideRx s t := by
  obtain ⟨a, rest, hrun, -⟩ := receivingStep_action hcall h
  exact (show SameOutsideRx s (s.setStream rest) from SameOutsideRx.refl s).trans (RxAction.sameOutsideRx hrun)

/-- A step outside a `DecodeNext` touches neither the decoder nor the configuration (R16, R84). -/
theorem hostStep_frame {s t : State} (hcall : s.inCall = false) (h : step s = .next t) :
    SameDecoder s t ∧ t.cfg = s.cfg := by
  obtain ⟨a, cs, hstep⟩ := hostStep_action hcall h
  cases (hstep s rfl).symm.trans h
  exact a.frame (s.setCalls cs)

/-- Settles O31: whichever agent steps, the configuration is outside what its actions write. -/
theorem configurationNeverChanges : Obligations.ConfigurationNeverChanges := by
  intro s t h
  cases hcall : s.inCall with
  | false => exact (hostStep_frame hcall h).2
  | true =>
    obtain ⟨-, -, -, -, -, -, hcfg, -, -⟩ := receivingStep_sameOutsideRx hcall h
    exact hcfg

end Sys2Proof.StepKeeps
end

section
/-! PROOFS. Every step keeps the invariant of R24. While the decoder hunts only `RX_BUF` and `RX_CNT` are constrained, and
the host leaves both alone; inside a frame each byte-step re-establishes the clauses on the count and on the running
sum. -/

open Sys2Proof Sys2Proof.Machine Sys2Proof.Claims

namespace Sys2Proof.StepKeeps

open Host (Outcome)

/-- In `HUNT` only the clauses on `RX_BUF` and `RX_CNT` say anything. -/
theorem Inv.of_hunt {s : State} (hq : s.rxState = .hunt) (hbuf : s.rxBuf.wf = true) (hcnt : s.rxCnt.toNat ≤ 253) :
    Inv s :=
  { bufCanonical := hbuf
    payloadCount := by simp [hq]
    trailerCount := by simp [hq]
    runningSum := by simp [hq]
    countBound := hcnt
    eventInHunt := fun _ => hq
    huntOutsideCall := fun _ => hq }

/-- Inside a frame of a `DecodeNext` no event is shown, and the clauses of R24 on the counts and on the running sum are to
be checked. -/
theorem Inv.of_inFrame {s : State} (hcall : s.inCall = true) (hev : s.event = .none) (hbuf : s.rxBuf.wf = true)
    (hcnt : s.rxCnt.toNat ≤ 253)
    (hpay : s.rxState = .payload → 3 ≤ s.rxLen.toNat ∧ s.rxCnt.toNat + 2 < s.rxLen.toNat)
    (htrail : s.rxState = .csum ∨ s.rxState = .endMark → 2 ≤ s.rxLen.toNat ∧ s.rxCnt.toNat + 2 = s.rxLen.toNat)
    (hsum : s.rxSum = sum8 s.covered) : Inv s :=
  { bufCanonical := hbuf
    payloadCount := hpay
    trailerCount := htrail
    runningSum := fun _ => hsum
    countBound := hcnt
    eventInHunt := fun h => absurd hev h
    huntOutsideCall := by simp [hcall] }

theorem Inv.setStream {s : State} (h : Inv s) (items : List RxItem) : Inv (s.setStream items) :=
  ⟨h.bufCanonical, h.payloadCount, h.trailerCount, h.runningSum, h.countBound, h.eventInHunt, h.huntOutsideCall⟩

/-- Settles O28: reset hunts with an empty buffer and nothing sent. -/
theorem resetMeetsInvariants : Obligations.ResetMeetsInvariants :=
  ⟨Inv.of_hunt rfl Memory.reset_wf (Nat.zero_le _), [], by simp, rfl⟩

/-- Settles O60 by the definition of the reset state, register by register. -/
theorem resetValues : Obligations.ResetValues := ⟨rfl, rfl, rfl, rfl, rfl, rfl, rfl, rfl, rfl⟩

/-- The running sum takes in one more byte at the end (R64). -/
theorem sum8_concat (l : List Byte) (b : Byte) : sum8 (l ++ [b]) = sum8 l + b := by
  simp [sum8_append, sum8]

/-- `RX_CNT` is at most 253 (R24, I6), so that it does not wrap at one more byte. -/
theorem rxCnt_succ_toNat {s : State} (hi : Inv s) : (s.rxCnt + 1).toNat = s.rxCnt.toNat + 1 := by
  have := hi.countBound
  bv_omega

/-- `RX.PAYLOAD` appends its byte to the payload so far (R70). -/
theorem readPrefix_write_rxCnt {s : State} (hi : Inv s) (b : Byte) :
    (Memory.write s.rxBuf s.rxCnt.toNat b).readPrefix (s.rxCnt + 1).toNat = s.payloadSoFar ++ [b] := by
  rw [rxCnt_succ_toNat hi, Memory.readPrefix_write_succ hi.bufCanonical, State.payloadSoFar]

/-- An RX byte-step of a `DecodeNext` keeps the invariant: the case split is the list of the byte-steps' outcomes. -/
theorem rxStep_inv {b : Byte} {s t : State} (hi : Inv s) (hcall : s.inCall = true) (h : rxStep b s = .next t) : Inv t := by
  have hwf := hi.bufCanonical
  have hcnt := hi.countBound
  have hsum := hi.runningSum
  rcases rxStep_next_cases h with ⟨hq, -, rfl⟩ | ⟨hq, -, rfl⟩ | ⟨hq, rfl⟩ | ⟨hq, -, rfl⟩ | ⟨hq, hlen, rfl⟩ |
    ⟨hq, hlen, rfl⟩ | ⟨hq, -, rfl⟩ | ⟨hq, rfl⟩ | ⟨hq, -, rfl⟩ | ⟨hq, -, -, -, rfl⟩ | ⟨hq, -, -, rfl⟩
  · exact Inv.of_hunt hq hwf hcnt
  · exact Inv.of_inFrame hcall rfl hwf hcnt (by simp) (by simp) (by simp [State.covered, sum8])
  · exact Inv.of_inFrame hcall rfl hwf hcnt (by simp) (by simp) (by simp_all [State.covered, sum8])
  · rw [raise_packetError]
    exact Inv.of_hunt rfl hwf (Nat.zero_le _)
  · exact Inv.of_inFrame hcall rfl hwf (Nat.zero_le _) (by simp) (by simp [hlen]) (by
      simp_all [State.covered, State.payloadSoFar, sum8, BitVec.add_assoc])
  · exact Inv.of_inFrame hcall rfl hwf (Nat.zero_le _) (by simp; omega) (by simp) (by
      simp_all [State.covered, State.payloadSoFar, sum8, BitVec.add_assoc])
  · obtain ⟨hlen, hroom⟩ := hi.payloadCount hq
    have hlt := s.rxLen.isLt
    have hsucc := rxCnt_succ_toNat hi
    have hcov : s.covered ++ [b] = startMarker :: s.rxType :: s.rxLen ::
        (Memory.write s.rxBuf s.rxCnt.toNat b).readPrefix (s.rxCnt + 1).toNat := by
      simp only [State.covered, hq, readPrefix_write_rxCnt hi, List.cons_append]
    have hnew : s.rxSum + b = sum8 (s.covered ++ [b]) := by rw [sum8_concat, hsum (by simp [hq])]
    rw [hcov] at hnew
    refine Inv.of_inFrame hcall rfl (Memory.write_wf hwf (show _ < 253 by omega)) (by simp only [hsucc]; omega) ?_ ?_ ?_
    · simp only [hsucc]
      split <;> simp
      omega
    · simp only [hsucc]
      split <;> simp
      omega
    · by_cases hlast : s.rxCnt.toNat + 3 = s.rxLen.toNat <;> simpa [State.covered, State.payloadSoFar, hlast] using hnew
  · exact Inv.of_inFrame hcall rfl hwf hcnt (by simp) (fun _ => hi.trailerCount (.inl hq)) (by
      simp_all [State.covered, State.payloadSoFar])
  · rw [raise_packetError]
    exact Inv.of_hunt rfl hwf hcnt
  · rw [deliver_eq]
    exact Inv.of_hunt rfl hwf hcnt
  · exact Inv.of_hunt rfl hwf hcnt

/-- A byte-step without an event leaves the call as it is (R80). -/
theorem rxStep_inCall {b : Byte} {s t : State} (h : rxStep b s = .next t) (he : t.event = .none) :
    t.inCall = s.inCall := by
  rcases rxStep_next_cases h with ⟨-, -, rfl⟩ | ⟨-, -, rfl⟩ | ⟨-, rfl⟩ | ⟨-, -, rfl⟩ | ⟨-, -, rfl⟩ | ⟨-, -, rfl⟩ |
    ⟨-, -, rfl⟩ | ⟨-, rfl⟩ | ⟨-, -, rfl⟩ | ⟨-, -, -, -, rfl⟩ | ⟨-, -, -, rfl⟩
  · rfl
  · rfl
  · rfl
  · simp [raise_packetError] at he
  · rfl
  · rfl
  · rfl
  · rfl
  · simp [raise_packetError] at he
  · simp [deliver_eq] at he
  · rfl

/-- Receiving a run of bytes in a `DecodeNext` keeps the invariant: by induction on the bytes, as long as no event ends the
call. -/
theorem receive_inv {F : List Byte} {s t : State} (hi : Inv s) (hcall : s.inCall = true) (h : receive F s = .next t) :
    Inv t := by
  induction F generalizing s with
  | nil => cases h; exact hi
  | cons b bs ih =>
    cases hb : rxStep b s with
    | next u =>
      have hu := rxStep_inv hi hcall hb
      by_cases he : u.event = .none
      · rw [receive_cons_none hb he] at h
        exact ih hu ((rxStep_inCall hb he).trans hcall) h
      · rw [receive_cons_event hb he] at h
        cases h
        exact Inv.setStream hu _
    | _ => simp [receive, hb] at h

theorem RxAction.inv {a : RxAction} {s t : State} (hi : Inv s) (hcall : s.inCall = true) (h : a.run s = .next t) :
    Inv t := by
  cases a with
  | receive F => exact receive_inv hi hcall h
  | abort =>
    rw [RxAction.run, execAbort, raise_timeoutError] at h
    cases h
    exact Inv.of_hunt rfl hi.bufCanonical hi.countBound
  | expand items => cases h; exact Inv.setStream hi items

/-- Settles O29: the host acts only while the decoder hunts and leaves its buffer and count alone; in a call every action on
an item keeps the invariant. -/
theorem stepKeepsInvariant : Obligations.StepKeepsInvariant := by
  intro s t hi h
  cases hcall : s.inCall with
  | false =>
    obtain ⟨⟨hq, hcnt, -, -, -, -, hbuf, -, -⟩, -⟩ := hostStep_frame hcall h
    exact Inv.of_hunt (hq.trans (hi.huntOutsideCall hcall)) (hbuf ▸ hi.bufCanonical) (hcnt ▸ hi.countBound)
  | true =>
    obtain ⟨a, rest, hrun, -⟩ := receivingStep_action hcall h
    exact RxAction.inv (Inv.setStream hi rest) hcall hrun

end Sys2Proof.StepKeeps
end

section
/-! PROOFS. Noninterference: no step reads a register before the frame in progress has written it (R14, R15, R23). -/

open Sys2Proof Sys2Proof.Machine Sys2Proof.Claims

namespace Sys2Proof.StepKeeps

open Host (Outcome)

theorem SameLive.of_hunt {s t : State} (hq : s.rxState = .hunt) (hv : visible t = visible s) : SameLive s t :=
  sameLive_iff.mpr ⟨SameInFrame.of_hunt hq, hv⟩

/-- A transition of the decoder without an error or a delivery is visible in `RX_STATE` and the event only. -/
theorem visible_transition {s t : State} (q : RxState) (hv : visible t = visible s) :
    visible ((t.setRxState q).emit .none) = visible ((s.setRxState q).emit .none) :=
  congrArg (fun u => (u.setRxState q).emit .none) hv

theorem raise_packetError_visible {s t : State} (c : ErrCause) (hv : visible t = visible s) :
    visible (raise (.packetError c) t) = visible (raise (.packetError c) s) := by
  rw [visible_eq_iff] at hv ⊢
  simp_all [raise_packetError]

theorem raise_timeoutError_visible {s t : State} (hv : visible t = visible s) :
    visible (raise .timeoutError t) = visible (raise .timeoutError s) := by
  rw [visible_eq_iff] at hv ⊢
  simp_all [raise_timeoutError]

theorem deliver_visible {s t : State} (ty : Byte) (p : List Byte) (hv : visible t = visible s) :
    visible (deliver ty p t) = visible (deliver ty p s) := by
  rw [visible_eq_iff] at hv ⊢
  simp_all [deliver_eq]

/-- A byte-step reads nothing but the visible part and the frame in progress (R66 to R73). -/
theorem rxStep_sameLive {b : Byte} {s t s' : State} (hs : Inv s) (ht : Inv t) (hl : SameLive s t)
    (h : rxStep b s = .next s') : ∃ t', rxStep b t = .next t' ∧ SameLive s' t' := by
  obtain ⟨⟨hsum, htype, hpay, hcsum⟩, hv⟩ := sameLive_iff.mp hl
  have hqt : t.rxState = s.rxState := (visible_eq_iff.mp hv).1
  cases hq : s.rxState with
  | hunt =>
    simp only [rxStep, hq, hqt] at h ⊢
    split at h
    · cases h
      rw [if_pos ‹_›]
      exact ⟨_, rfl, sameLive_iff.mpr ⟨by simp [SameInFrame], visible_transition .type hv⟩⟩
    · cases h
      rw [if_neg ‹_›]
      exact ⟨_, rfl, SameLive.of_hunt hq (congrArg (State.emit .none) hv)⟩
  | type =>
    simp only [rxStep, hq, hqt] at h ⊢
    cases h
    exact ⟨_, rfl, sameLive_iff.mpr ⟨by simp_all [SameInFrame], visible_transition .len hv⟩⟩
  | len =>
    simp only [rxStep, hq, hqt, execRxLen] at h ⊢
    split at h
    · cases h
      rw [if_pos ‹_›]
      exact ⟨_, rfl, SameLive.of_hunt (by simp [raise_packetError])
        (raise_packetError_visible (s := s.latchLen b) (t := t.latchLen b) lenBad hv)⟩
    · rw [if_neg ‹_›]
      split at h
      · cases h
        rw [if_pos ‹_›]
        exact ⟨_, rfl, sameLive_iff.mpr ⟨by simp_all [SameInFrame, State.payloadSoFar], visible_transition .csum hv⟩⟩
      · cases h
        rw [if_neg ‹_›]
        exact ⟨_, rfl, sameLive_iff.mpr ⟨by simp_all [SameInFrame, State.payloadSoFar], visible_transition .payload hv⟩⟩
  | payload =>
    obtain ⟨hlen, hcnt, hbytes⟩ := hpay (.inl hq)
    simp only [rxStep, hq, hqt, execRxPayload, hcnt, hlen] at h ⊢
    split at h
    · cases h
      rw [if_pos ‹_›]
      refine ⟨_, rfl, sameLive_iff.mpr ⟨?_, visible_transition _ hv⟩⟩
      have hmore : (Memory.write t.rxBuf t.rxCnt.toNat b).readPrefix (t.rxCnt + 1).toNat =
          (Memory.write s.rxBuf s.rxCnt.toNat b).readPrefix (s.rxCnt + 1).toNat := by
        rw [readPrefix_write_rxCnt ht, readPrefix_write_rxCnt hs, hbytes]
      rw [hcnt] at hmore
      by_cases hlast : s.rxCnt.toNat + 3 = s.rxLen.toNat <;> simp_all [SameInFrame, State.payloadSoFar]
    · cases h
  | csum =>
    simp only [rxStep, hq, hqt] at h ⊢
    cases h
    have hframe : SameInFrame { s with rxCsum := b, rxState := .endMark, event := .none }
        { t with rxCsum := b, rxState := .endMark, event := .none } :=
      ⟨fun _ => hsum (by simp [hq]), fun _ _ => htype (by simp [hq]) (by simp [hq]), fun _ => hpay (.inr (.inl hq)),
        fun _ => rfl⟩
    exact ⟨_, rfl, sameLive_iff.mpr ⟨hframe, visible_transition .endMark hv⟩⟩
  | endMark =>
    obtain ⟨-, hcnt, hbytes⟩ := hpay (.inr (.inr hq))
    have hcall : s.inCall = true := by
      by_contra hout
      exact absurd (hs.huntOutsideCall (by simpa using hout)) (by simp [hq])
    have hexp : t.expectedType = s.expectedType := (visible_eq_iff.mp hv).2.1 hcall
    have hprefix : t.rxBuf.readPrefix s.rxCnt.toNat = s.rxBuf.readPrefix s.rxCnt.toNat := by
      simpa [State.payloadSoFar, hcnt] using hbytes
    have hty : t.rxType = s.rxType := htype (by simp [hq]) (by simp [hq])
    simp only [rxStep, hq, hqt, execRxEnd, hcsum hq, hsum (by simp [hq] : s.rxState ≠ .hunt), hty, hexp, hcnt] at h ⊢
    split at h
    · cases h
      rw [if_pos ‹_›]
      exact ⟨_, rfl, SameLive.of_hunt (by simp [raise_packetError]) (raise_packetError_visible _ hv)⟩
    · rw [if_neg ‹_›]
      split at h
      · rw [if_pos ‹_›]
        split at h
        · cases h
          rw [if_pos ‹_›, hprefix]
          exact ⟨_, rfl, SameLive.of_hunt (by simp [deliver_eq]) (deliver_visible _ _ hv)⟩
        · cases h
      · cases h
        rw [if_neg ‹_›]
        exact ⟨_, rfl, SameLive.of_hunt rfl (visible_transition .hunt hv)⟩

theorem SameLive.setStream {s t : State} (hl : SameLive s t) (items : List RxItem) :
    SameLive (s.setStream items) (t.setStream items) := by
  obtain ⟨hframe, hv⟩ := sameLive_iff.mp hl
  exact sameLive_iff.mpr ⟨hframe, congrArg (State.setStream items) hv⟩

theorem SameLive.event_eq {s t : State} (hl : SameLive s t) : t.event = s.event := by
  have := (sameLive_iff.mp hl).2
  simp_all [visible_eq_iff]

theorem SameLive.rxStream_eq {s t : State} (hl : SameLive s t) : t.rxStream = s.rxStream := by
  have := (sameLive_iff.mp hl).2
  simp_all [visible_eq_iff]

/-- Two states that differ in leftovers receive the same bytes in the same way: by induction on the bytes. -/
theorem receive_sameLive {F : List Byte} {s t s' : State} (hs : Inv s) (ht : Inv t) (hl : SameLive s t)
    (hcs : s.inCall = true) (hct : t.inCall = true) (h : receive F s = .next s') :
    ∃ t', receive F t = .next t' ∧ SameLive s' t' := by
  induction F generalizing s t with
  | nil => cases h; exact ⟨t, rfl, hl⟩
  | cons b bs ih =>
    cases hb : rxStep b s with
    | next u =>
      obtain ⟨v, hbt, huv⟩ := rxStep_sameLive hs ht hl hb
      by_cases he : u.event = .none
      · have hev : v.event = .none := (SameLive.event_eq huv).trans he
        rw [receive_cons_none hb he] at h
        rw [receive_cons_none hbt hev]
        exact ih (rxStep_inv hs hcs hb) (rxStep_inv ht hct hbt) huv ((rxStep_inCall hb he).trans hcs)
          ((rxStep_inCall hbt hev).trans hct) h
      · rw [receive_cons_event hb he] at h
        rw [receive_cons_event hbt (by rwa [SameLive.event_eq huv]), SameLive.rxStream_eq huv]
        cases h
        exact ⟨_, rfl, SameLive.setStream huv _⟩
    | _ => simp [receive, hb] at h

theorem RxAction.sameLive {a : RxAction} {s t s' : State} (hs : Inv s) (ht : Inv t) (hl : SameLive s t)
    (hcs : s.inCall = true) (hct : t.inCall = true) (h : a.run s = .next s') :
    ∃ t', a.run t = .next t' ∧ SameLive s' t' := by
  cases a with
  | receive F => exact receive_sameLive hs ht hl hcs hct h
  | abort =>
    cases h
    exact ⟨_, rfl, SameLive.of_hunt (by simp [raise_timeoutError]) (raise_timeoutError_visible (sameLive_iff.mp hl).2)⟩
  | expand items => cases h; exact ⟨_, rfl, SameLive.setStream hl items⟩

/-- Two states that meet the invariant and differ in leftovers take the same step: outside a call by the same action of the
host, inside one by the same action on the same item. -/
theorem step_sameLive {s t s' : State} (hs : Inv s) (ht : Inv t) (hl : SameLive s t) (h : step s = .next s') :
    ∃ t', step t = .next t' ∧ SameLive s' t' := by
  have hv := (sameLive_iff.mp hl).2
  cases hcall : s.inCall with
  | false =>
    obtain ⟨a, cs, hstep⟩ := hostStep_action hcall h
    obtain ⟨⟨hq, -⟩, -⟩ := hostStep_frame hcall h
    cases (hstep s rfl).symm.trans h
    exact ⟨_, hstep t hv, SameLive.of_hunt (hq.trans (hs.huntOutsideCall hcall))
      (a.visible_congr (congrArg (State.setCalls cs) hv))⟩
  | true =>
    obtain ⟨a, rest, hrun, hstep⟩ := receivingStep_action hcall h
    have hopen := isOpen_of_step h
    have hrt : Receiving t := by simp_all [visible_eq_iff, Receiving]
    rw [hstep t hrt (SameLive.rxStream_eq hl)]
    exact RxAction.sameLive (Inv.setStream hs rest) (Inv.setStream ht rest) (SameLive.setStream hl rest) hcall hrt.2 hrun

/-- Settles O33: the step of two states that agree on what a rule may read, and reset, where the decoder hunts outside a
call, so that none of the registers counts. -/
theorem leftoversNeverMatter : Obligations.LeftoversNeverMatter :=
  ⟨fun _ _ _ => step_sameLive, fun _ _ _ _ _ _ => SameLive.of_hunt rfl rfl⟩

end Sys2Proof.StepKeeps
end

section
/-! PROOFS. What `SDEC` leaves in its registers (R19). -/

open Sys2Proof Sys2Proof.Machine Sys2Proof.Claims Sys2Proof.FieldsAndChecksum

namespace Sys2Proof.StepKeeps

/-- Payload byte 0 is the subtype byte (R34, R35). -/
theorem head?_eq_memRead8 {P : List Byte} (h : 0 + 1 ≤ P.length) : P.head? = some (memRead8 P 0 h) := by
  rw [List.head?_eq_getElem?, memRead8, List.getElem?_eq_getElem]

/-- Settles O51: `unpackRaw` and `unpackQuat` read each register at its offset of the layout, and each reading is the
big-endian number there. -/
theorem sdecIntermediates : Obligations.SdecIntermediates := by
  constructor
  · intro P s h
    refine ⟨_, unpackRaw P h, _, execSdecRaw_of_length h s, rfl, head?_eq_memRead8 (by omega), memRead16_toNat P 1 (by omega),
      memRead32_toNat P 3 (by omega), rfl, fun i => ?_, fun j => ?_⟩
    · simpa using sext16_memRead16 P (7 + 2 * i.val) (by omega)
    · simpa [unpackRaw] using memRead16_toNat P (43 + 2 * j.val) (by omega)
  · intro P s h
    refine ⟨_, unpackQuat P h, _, execSdecQuat_of_length h s, rfl, head?_eq_memRead8 (by omega), memRead16_toNat P 1 (by omega),
      memRead32_toNat P 3 (by omega), rfl, fun i => ?_, fun j => ?_⟩
    · simpa using sext32_memRead32 P (7 + 4 * i.val) (by omega)
    · simpa [unpackQuat] using memRead16_toNat P (39 + 2 * j.val) (by omega)

end Sys2Proof.StepKeeps
end

section
/-! PROOFS. `MemWrite` (R31) as a field at its offset: the length of the result, the bytes of the field and the bytes outside
it, for a field of any size; reading a two-byte or four-byte field back follows. -/

open Sys2Proof Sys2Proof.Machine Sys2Proof.Claims Sys2Proof.FieldsAndChecksum

namespace Sys2Proof.FieldWrite

/-! ### `MemWrite` of a field of any size -/

/-- The bytes before the field: those of the sequence, and the gap where the sequence ends before the field. -/
def beforeField (P : List Byte) (o : Nat) : List Byte :=
  P.take o ++ (List.range (o - P.length)).map fun i => Config.gapByte (P.length + i)

/-- The `n` bytes of the value `v`, big-endian (R31). -/
def fieldBytes (n v : Nat) : List Byte := (List.range n).map fun i => BitVec.ofNat 8 (v / 2 ^ (8 * (n - 1 - i)))

theorem memWrite_eq (P : List Byte) (o n v : Nat) :
    memWrite P o n v = beforeField P o ++ (fieldBytes n v ++ P.drop (o + n)) := by
  simp only [memWrite, beforeField, fieldBytes, List.append_assoc]

/-- The gap makes up for what the sequence lacks, so the field stands at its offset. -/
@[simp] theorem beforeField_length (P : List Byte) (o : Nat) : (beforeField P o).length = o := by
  simp only [beforeField, List.length_append, List.length_take, List.length_map, List.length_range]
  omega

@[simp] theorem fieldBytes_length (n v : Nat) : (fieldBytes n v).length = n := by simp [fieldBytes]

theorem fieldBytes_getElem? {n i : Nat} (v : Nat) (hi : i < n) :
    (fieldBytes n v)[i]? = some (BitVec.ofNat 8 (v / 2 ^ (8 * (n - 1 - i)))) := by
  simp [fieldBytes, hi]

theorem memWrite_length (P : List Byte) (o n v : Nat) : (memWrite P o n v).length = max P.length (o + n) := by
  simp only [memWrite_eq, List.length_append, beforeField_length, fieldBytes_length, List.length_drop]
  omega

/-- Inside the field. -/
theorem memWrite_getElem?_field (P : List Byte) (o v : Nat) {n i : Nat} (hi : i < n) :
    (memWrite P o n v)[o + i]? = some (BitVec.ofNat 8 (v / 2 ^ (8 * (n - 1 - i)))) := by
  rw [memWrite_eq, List.getElem?_append_right (by simp), beforeField_length, Nat.add_sub_cancel_left,
    List.getElem?_append_left (by simpa using hi), fieldBytes_getElem? v hi]

/-- Outside the field. -/
theorem memWrite_getElem?_frame {P : List Byte} {o n j : Nat} (v : Nat) (hj : j < P.length) (hout : j < o ∨ o + n ≤ j) :
    (memWrite P o n v)[j]? = P[j]? := by
  rw [memWrite_eq]
  rcases hout with hbefore | hafter
  · rw [List.getElem?_append_left (by simpa using hbefore), beforeField,
      List.getElem?_append_left (by simp; omega), List.getElem?_take_of_lt hbefore]
  · rw [List.getElem?_append_right (by simp; omega), List.getElem?_append_right (by simp; omega), List.getElem?_drop]
    congr 1
    simp only [beforeField_length, fieldBytes_length]
    omega

theorem memWrite_getD_field (P : List Byte) (o v : Nat) {n i : Nat} (hi : i < n) :
    (memWrite P o n v).getD (o + i) 0 = BitVec.ofNat 8 (v / 2 ^ (8 * (n - 1 - i))) := by
  rw [List.getD_eq_getElem?_getD, memWrite_getElem?_field P o v hi, Option.getD_some]

/-- A field written into the empty sequence is its bytes. -/
theorem memWrite_nil (n v : Nat) : memWrite [] 0 n v = fieldBytes n v := by
  simp [memWrite_eq, beforeField]

/-! ### The two-byte and the four-byte field -/

/-- Two base-256 digits of a half word are the half word. -/
theorem memRead16_memWrite (P : List Byte) (o : Nat) (v : Half) (h : o + 2 ≤ (memWrite P o 2 v.toNat).length) :
    memRead16 (memWrite P o 2 v.toNat) o h = v := by
  have high := memWrite_getD_field P o v.toNat (show 0 < 2 by decide)
  have low := memWrite_getD_field P o v.toNat (show 1 < 2 by decide)
  rw [Nat.add_zero] at high
  apply BitVec.eq_of_toNat_eq
  rw [memRead16_toNat, u16, high, low, BitVec.toNat_ofNat, BitVec.toNat_ofNat]
  omega

/-- Four base-256 digits of a long word are the long word. -/
theorem memRead32_memWrite (P : List Byte) (o : Nat) (v : Long) (h : o + 4 ≤ (memWrite P o 4 v.toNat).length) :
    memRead32 (memWrite P o 4 v.toNat) o h = v := by
  have digit0 := memWrite_getD_field P o v.toNat (show 0 < 4 by decide)
  have digit1 := memWrite_getD_field P o v.toNat (show 1 < 4 by decide)
  have digit2 := memWrite_getD_field P o v.toNat (show 2 < 4 by decide)
  have digit3 := memWrite_getD_field P o v.toNat (show 3 < 4 by decide)
  rw [Nat.add_zero] at digit0
  apply BitVec.eq_of_toNat_eq
  rw [memRead32_toNat, u32, digit0, digit1, digit2, digit3]
  simp only [BitVec.toNat_ofNat]
  omega

/-- The byte of a word at bit `k` is its base-256 digit there (R7, R31). -/
theorem extractLsb'_eq_ofNat {w : Nat} (v : BitVec w) (k : Nat) :
    v.extractLsb' k 8 = BitVec.ofNat 8 (v.toNat / 2 ^ k) := by
  rw [BitVec.extractLsb', Nat.shiftRight_eq_div_pow]

theorem bytes16_eq_memWrite (v : Half) : bytes16 v = memWrite [] 0 2 v.toNat := by
  rw [memWrite_nil, bytes16, extractLsb'_eq_ofNat, extractLsb'_eq_ofNat]
  rfl

theorem bytes32_eq_memWrite (v : Long) : bytes32 v = memWrite [] 0 4 v.toNat := by
  simp only [memWrite_nil, bytes32, extractLsb'_eq_ofNat]
  rfl

/-- Settles O8: length and frame hold of a field of any size; the two sizes that are read differ in how many digits the
reading puts together. -/
theorem fieldWriteThenRead : Obligations.FieldWriteThenRead :=
  ⟨fun P o v => ⟨⟨by rw [memWrite_length]; omega, memRead16_memWrite P o v _⟩, memWrite_length P o 2 v.toNat,
      fun _ => memWrite_getElem?_frame v.toNat⟩,
    fun P o v => ⟨⟨by rw [memWrite_length]; omega, memRead32_memWrite P o v _⟩, memWrite_length P o 4 v.toNat,
      fun _ => memWrite_getElem?_frame v.toNat⟩,
    bytes16_eq_memWrite, bytes32_eq_memWrite⟩

end Sys2Proof.FieldWrite
end

section
/-! PROOFS. `TX_STREAM` grows by whole frames only (R37, R63). -/

open Sys2Proof Sys2Proof.Machine Sys2Proof.Claims

namespace Sys2Proof.StepKeeps

/-- From `s` to `t`, `TX_STREAM` is as before or has grown by one whole frame (R63, D30). -/
def GrowsByFrame (s t : State) : Prop :=
  t.txStream = s.txStream ∨ ∃ ty p, p.length ≤ 253 ∧ t.txStream = s.txStream ++ mkFrame ty p

theorem GrowsByFrame.txWhole {s t : State} (hgrow : GrowsByFrame s t) (hs : TxWhole s) : TxWhole t := by
  obtain ⟨frames, hle, htx⟩ := hs
  rcases hgrow with hsame | ⟨ty, p, hp, happ⟩
  · exact ⟨frames, hle, hsame.trans htx⟩
  · refine ⟨frames ++ [(ty, p)], ?_, by simp [happ, htx]⟩
    simpa [or_imp, forall_and, hp] using hle

/-- A write appends its frame whole, or nothing: a payload of more than 253 bytes is refused (R61), and a write that times
out lands whole or not at all (R63, D30). -/
theorem transmit_growsByFrame (ty : Byte) (p : List Byte) (noted : State → State)
    (hnoted : ∀ u, (noted u).txStream = u.txStream) (s : State) : GrowsByFrame s (transmit ty p noted s) := by
  by_cases hp : p.length ≤ 253
  · cases hw : s.writeTimeouts.headD false with
    | false => exact .inr ⟨ty, p, hp, by rw [transmit_of_le noted hp hw, hnoted]⟩
    | true =>
      rw [transmit_of_timeout noted hp hw, GrowsByFrame, State.timeOutWrite_txStream]
      split
      · exact .inr ⟨ty, p, hp, rfl⟩
      · exact .inl rfl
  · exact .inl (by rw [transmit_of_gt noted s (by omega)])

/-- Of the host's actions only `transmit` reaches `TX_STREAM`. -/
theorem HostAction.growsByFrame (a : HostAction) (s : State) : GrowsByFrame s (a.run s) := by
  cases a with
  | transmit ty p f => exact transmit_growsByFrame ty p (mapSession f) (fun _ => rfl) s
  | _ => exact .inl rfl

/-- Inside a `DecodeNext` nothing is transmitted (R84); outside one the step is an action of the host. -/
theorem step_growsByFrame {s t : State} (h : step s = .next t) : GrowsByFrame s t := by
  cases hcall : s.inCall with
  | false =>
    obtain ⟨a, cs, hstep⟩ := hostStep_action hcall h
    cases (hstep s rfl).symm.trans h
    exact a.growsByFrame (s.setCalls cs)
  | true =>
    obtain ⟨-, htx, -⟩ := receivingStep_sameOutsideRx hcall h
    exact .inl htx

/-- Settles O15: a step appends at most one frame, and that one whole. -/
theorem stepKeepsWholeFrames : Obligations.StepKeepsWholeFrames :=
  fun _ _ hs h => (step_growsByFrame h).txWhole hs

end Sys2Proof.StepKeeps
end

section
/-! PROOFS. A whole frame in `RX_STREAM` is its bytes (R25, R80). A byte-step does not look at `RX_STREAM`, so it does not
matter whether the bytes after it still stand there or are held by the frame in progress. -/

open Sys2Proof Sys2Proof.Machine Sys2Proof.Claims

namespace Sys2Proof.FrameItem

open Host (Outcome)

theorem mapNext_next (f : State → State) (s : State) : mapNext f (.next s) = .next (f s) := rfl

theorem mapNext_fault (f : State → State) (r : Fault) : mapNext f (.fault r) = .fault r := rfl

theorem mapNext_ite (f : State → State) (c : Prop) [Decidable c] (x y : Outcome State Fault Refusal) :
    mapNext f (if c then x else y) = if c then mapNext f x else mapNext f y := apply_ite (mapNext f) c x y

theorem raise_packetError_setStream (c : ErrCause) (items : List RxItem) (s : State) :
    raise (.packetError c) (s.setStream items) = (raise (.packetError c) s).setStream items := by
  simp only [raise_packetError]
  rfl

theorem deliver_setStream (ty : Byte) (p : List Byte) (items : List RxItem) (s : State) :
    deliver ty p (s.setStream items) = (deliver ty p s).setStream items := by
  simp only [deliver_eq]
  rfl

theorem latchLen_setStream (b : Byte) (items : List RxItem) (s : State) :
    (s.setStream items).latchLen b = (s.latchLen b).setStream items := rfl

/-- A byte-step carries `RX_STREAM` along and never reads it (R65 to R73): its tests read registers, and each of its branches
is an update that commutes with setting the stream. -/
theorem rxStep_setStream (b : Byte) (items : List RxItem) (s : State) :
    rxStep b (s.setStream items) = mapNext (State.setStream items) (rxStep b s) := by
  cases hq : s.rxState <;> simp only [rxStep, State.setStream_rxState, hq]
  case hunt => split <;> rfl
  case type => rfl
  case len =>
    simp only [execRxLen, mapNext_ite, mapNext_next, latchLen_setStream, raise_packetError_setStream]
    rfl
  case payload =>
    simp only [execRxPayload, mapNext_ite, mapNext_next, mapNext_fault]
    rfl
  case csum => rfl
  case endMark =>
    simp only [execRxEnd, mapNext_ite, mapNext_next, mapNext_fault, raise_packetError_setStream, deliver_setStream]
    rfl

/-- How the loop of R80 goes on after an item: with the rest, unless the item ended the call. -/
def continueLoop (rest : List RxItem) : Outcome State Fault Refusal → Outcome State Fault Refusal
  | .next s => if s.event = .none then decodeLoop rest s else .next s
  | .fault r => .fault r
  | .refused r => .refused r

theorem decodeLoop_byte (b : Byte) (rest : List RxItem) (s : State) :
    decodeLoop (.byte b :: rest) s = continueLoop rest (rxStep b (s.setStream rest)) := by
  rw [decodeLoop]
  rfl

theorem decodeLoop_frame_nil (rest : List RxItem) (s : State) : decodeLoop (.frame [] :: rest) s = decodeLoop rest s := by
  rw [decodeLoop, if_pos rfl]

theorem decodeLoop_frame {F : List Byte} (hF : F ≠ []) (rest : List RxItem) (s : State) :
    decodeLoop (.frame F :: rest) s = continueLoop rest (receive F (s.setStream rest)) := by
  rw [decodeLoop, if_neg hF]
  rfl

/-- The loop takes its items from its argument, whatever `RX_STREAM` holds. -/
theorem decodeLoop_setStream (items xs : List RxItem) (s : State) :
    decodeLoop items (s.setStream xs) = decodeLoop items s := by
  induction items with
  | nil => rfl
  | cons item rest ih =>
    cases item with
    | byte b => simp only [decodeLoop_byte]; rfl
    | abort => rfl
    | frame F =>
      by_cases hF : F = []
      · rw [hF, decodeLoop_frame_nil, decodeLoop_frame_nil, ih]
      · simp only [decodeLoop_frame hF]; rfl

/-- The loop over a run of bytes is the loop after receiving the run (R65, R80). The run may be empty only where no event
stands, as is the case past a byte that did not end the call: the loop looks at the event after an item. -/
theorem decodeLoop_bytesOf {F : List Byte} (rest : List RxItem) {s : State} (h : F = [] → s.event = .none) :
    decodeLoop (bytesOf F ++ rest) s = continueLoop rest (receive F (s.setStream rest)) := by
  induction F generalizing s with
  | nil =>
    have hev : (s.setStream rest).event = .none := h rfl
    simp only [receive, continueLoop, if_pos hev, decodeLoop_setStream]
    rfl
  | cons b bs ih =>
    have hcons : bytesOf (b :: bs) ++ rest = .byte b :: (bytesOf bs ++ rest) := rfl
    rw [hcons, decodeLoop_byte, rxStep_setStream]
    have hrest := rxStep_setStream b rest s
    cases hb : rxStep b s with
    | next u =>
      rw [hb] at hrest
      by_cases hev : u.event = .none
      · calc continueLoop (bytesOf bs ++ rest) (.next (u.setStream (bytesOf bs ++ rest)))
            = decodeLoop (bytesOf bs ++ rest) (u.setStream (bytesOf bs ++ rest)) := if_pos hev
          _ = decodeLoop (bytesOf bs ++ rest) u := decodeLoop_setStream ..
          _ = continueLoop rest (receive bs (u.setStream rest)) := ih fun _ => hev
          _ = continueLoop rest (receive (b :: bs) (s.setStream rest)) := by rw [receive_cons_none hrest hev]
      · calc continueLoop (bytesOf bs ++ rest) (.next (u.setStream (bytesOf bs ++ rest)))
            = .next (u.setStream (bytesOf bs ++ rest)) := if_neg hev
          _ = continueLoop rest (.next (u.setStream (bytesOf bs ++ rest))) := (if_neg hev).symm
          _ = continueLoop rest (receive (b :: bs) (s.setStream rest)) := by rw [receive_cons_event hrest hev]; rfl
    | fault r => simp only [receive, hrest, hb, mapNext, continueLoop]
    | refused r => simp only [receive, hrest, hb, mapNext, continueLoop]

/-- Settles O46: the frame of no bytes is skipped on both sides; any other is received as the run of its bytes. -/
theorem frameItemIsItsBytes : Obligations.FrameItemIsItsBytes := by
  intro F rest s
  by_cases hF : F = []
  · rw [hF, decodeLoop_frame_nil]
    rfl
  · rw [decodeLoop_frame hF, decodeLoop_bytesOf rest fun hnil => absurd hnil hF]

end Sys2Proof.FrameItem
end

section
/-! PROOFS. The frame format as a codec (R40, R59, R62): each byte of `mkFrame` at its offset, and `splitFrame` answers a type
and a payload for exactly the frames that `mkFrame` builds. That `WellFormed` is this set, and that a frame has one type and
one payload, follow. -/

open Sys2Proof Sys2Proof.Machine

namespace Sys2Proof.Encoding

/-! ### Where each byte stands -/

theorem frameBody_length (t : Byte) (p : List Byte) : (frameBody t p).length = p.length + 3 := rfl

/-- The payload first, then the trailer. -/
theorem mkFrame_eq_cons (t : Byte) (p : List Byte) :
    mkFrame t p = startMarker :: t :: BitVec.ofNat 8 (p.length + 2) :: (p ++ [sum8 (frameBody t p), endMarker]) := by
  simp [mkFrame, frameBody]

theorem mkFrame_take_body (t : Byte) (p : List Byte) : (mkFrame t p).take (p.length + 3) = frameBody t p :=
  List.take_left' (frameBody_length t p)

/-- The two bytes of the trailer follow the body (R40). -/
theorem mkFrame_getElem?_trailer (t : Byte) (p : List Byte) (k : Nat) :
    (mkFrame t p)[p.length + 3 + k]? = [sum8 (frameBody t p), endMarker][k]? := by
  rw [mkFrame, ← frameBody_length t p, List.getElem?_append_right (Nat.le_add_right ..), Nat.add_sub_cancel_left]

/-- Up to `P_MAXPAY` the length fits its byte (R6, R41). -/
theorem lengthByte_toNat {p : List Byte} (hp : p.length ≤ 253) : (BitVec.ofNat 8 (p.length + 2)).toNat = p.length + 2 :=
  Nat.mod_eq_of_lt (by omega)

/-- Settles O5: the bytes up to the payload by their place in the list, the trailer's by their place after the body. -/
theorem frameLayout : Obligations.FrameLayout := by
  intro t p hp
  refine ⟨mkFrame_length t p, rfl, rfl, ⟨_, rfl, lengthByte_toNat hp⟩, ?payload, ?checksum, ?last⟩
  case payload =>
    rw [mkFrame_eq_cons]
    exact List.take_left
  case checksum =>
    rw [mkFrame_take_body]
    exact mkFrame_getElem?_trailer t p 0
  case last => exact mkFrame_getElem?_trailer t p 1

/-! ### The frame splits into its type and payload, and nothing else splits -/

/-- Bytes that begin as a frame does, with a length byte that leaves a trailer of two, a fitting checksum and end marker, are
the frame of their payload. -/
theorem mkFrame_of_trailer {t l cs e : Byte} {rest : List Byte} (hl : 2 ≤ l.toNat)
    (htrailer : rest.drop (l.toNat - 2) = [cs, e])
    (hcs : cs = sum8 (startMarker :: t :: l :: rest.take (l.toNat - 2))) (he : e = endMarker) :
    (rest.take (l.toNat - 2)).length ≤ 253 ∧ mkFrame t (rest.take (l.toNat - 2)) = startMarker :: t :: l :: rest := by
  have hlen : rest.length - (l.toNat - 2) = 2 := by rw [← List.length_drop, htrailer]; rfl
  have hpay : (rest.take (l.toNat - 2)).length + 2 = l.toNat := by rw [List.length_take]; omega
  have hbody : frameBody t (rest.take (l.toNat - 2)) = startMarker :: t :: l :: rest.take (l.toNat - 2) := by
    rw [frameBody, hpay, BitVec.ofNat_toNat, BitVec.setWidth_eq]
  refine ⟨by omega, ?_⟩
  rw [mkFrame, hbody, ← hcs, ← he, ← htrailer, List.cons_append, List.cons_append, List.cons_append,
    List.take_append_drop]

theorem splitFrame_mkFrame (t : Byte) {p : List Byte} (hp : p.length ≤ 253) : splitFrame (mkFrame t p) = .ok (t, p) := by
  have hlen : ¬ p.length + 2 < 2 := by omega
  simp only [mkFrame_eq_cons, splitFrame, lengthByte_toNat hp, hlen, Nat.add_sub_cancel, List.drop_left, List.take_left,
    frameBody, ne_eq, not_true_eq_false, if_false]

/-- The checks of `splitFrame` leave one case, and there the bytes are the frame of what is answered. -/
theorem splitFrame_eq_ok_iff {F : List Byte} {t : Byte} {p : List Byte} :
    splitFrame F = .ok (t, p) ↔ p.length ≤ 253 ∧ mkFrame t p = F := by
  constructor
  · fun_cases splitFrame F with
    | case5 st t' l rest hst hl cs e htrailer hcs he =>
      rintro ⟨⟩
      rw [not_ne_iff] at hst hcs he
      subst hst
      exact mkFrame_of_trailer (by omega) htrailer hcs he
    | _ => rintro ⟨⟩
  · rintro ⟨hp, rfl⟩
    exact splitFrame_mkFrame t hp

theorem mkFrame_injective {t t' : Byte} {p p' : List Byte} (hp : p.length ≤ 253) (hp' : p'.length ≤ 253)
    (h : mkFrame t p = mkFrame t' p') : t = t' ∧ p = p' := by
  have hsplit := splitFrame_mkFrame t hp
  rw [h, splitFrame_mkFrame t' hp'] at hsplit
  cases hsplit
  exact ⟨rfl, rfl⟩

/-! ### `WellFormed` -/

theorem wellFormedFrame_mkFrame (t : Byte) {p : List Byte} (hp : p.length ≤ 253) : WellFormedFrame (mkFrame t p) := by
  obtain ⟨hlen, hstart, -, ⟨l, hl, hvalue⟩, -, hcs, hend⟩ := frameLayout t p hp
  refine ⟨by omega, hstart, ⟨l, hl, by omega, by omega⟩, ?checksum, ?last⟩
  case checksum => rw [hlen]; exact hcs
  case last => rw [hlen]; exact hend

/-- The two bytes that R59 counts from the end of the sequence are the trailer that the length byte leaves. -/
theorem exists_mkFrame_of_wellFormedFrame {F : List Byte} (h : WellFormedFrame F) :
    ∃ (t : Byte) (p : List Byte), p.length ≤ 253 ∧ mkFrame t p = F := by
  obtain ⟨hlen, hstart, ⟨l, hl, hmin, htotal⟩, hcs, hend⟩ := h
  match F, hlen with
  | st :: t :: l' :: rest, _ =>
    cases hstart
    cases hl
    have hrest : rest.length = l.toNat - 2 + 2 := by simp only [List.length_cons] at htotal; omega
    obtain ⟨cs, e, htrailer⟩ := List.length_eq_two.mp (show (rest.drop (l.toNat - 2)).length = 2 by simp [hrest])
    rw [List.length_cons, List.length_cons, List.length_cons, hrest] at hcs hend
    have hfirst : rest[l.toNat - 2]? = some cs := by rw [← List.head?_drop, htrailer, List.head?_cons]
    have hsecond : rest[l.toNat - 2 + 1]? = some e := by rw [← List.getElem?_drop, htrailer]; rfl
    exact ⟨t, _, mkFrame_of_trailer hmin htrailer (Option.some.inj (hfirst.symm.trans hcs))
      (Option.some.inj (hsecond.symm.trans hend))⟩

/-- Settles O4: the layout makes every frame well-formed, the trailer makes every well-formed sequence a frame, and a frame
splits in one way. -/
theorem wellFormedFramesAreEncoderOutputs : Obligations.WellFormedFramesAreEncoderOutputs := by
  refine ⟨fun F => ⟨exists_mkFrame_of_wellFormedFrame, ?_⟩, fun _ _ _ _ => mkFrame_injective⟩
  rintro ⟨t, p, hp, rfl⟩
  exact wellFormedFrame_mkFrame t hp

end Sys2Proof.Encoding
end

section
/-! PROOFS. The payload layouts as a codec (R30, R31, R34, R35, R113). One law, `ReadsLayout`, says of a field that its bytes
and its reading determine each other at any offset; it composes along a layout, so that each layout is one equivalence: the
payload is made of these fields exactly when reading it answers these fields. -/

open Sys2Proof Sys2Proof.FieldsAndChecksum Sys2Proof.FieldWrite Sys2Proof.StepKeeps

namespace Sys2Proof.Encoding

/-- `bytes` lays a value out in `w` bytes and `read` reads just these: a sequence goes on at `o` with the bytes of `v` and
then with `y` exactly when the field at `o` reads as `v` and `y` stands after it. -/
def ReadsLayout {α : Type} (w : Nat) (bytes : α → List Byte)
    (read : (P : List Byte) → (o : Nat) → o + w ≤ P.length → α) : Prop :=
  ∀ (P : List Byte) (o : Nat) (h : o + w ≤ P.length) (v : α) (y : List Byte),
    P.drop o = bytes v ++ y ↔ read P o h = v ∧ P.drop (o + w) = y

/-! ### The three field widths -/

/-- A half word is its two base-256 digits (R8, R31). -/
theorem append2_eq_iff (a b : Byte) (v : Half) : a ++ b = v ↔ a = v.extractLsb' 8 8 ∧ b = v.extractLsb' 0 8 := by
  simp only [← BitVec.toNat_inj, extractLsb'_eq_ofNat, toNat_append_byte, BitVec.toNat_ofNat]
  omega

/-- A long word is its four base-256 digits (R8, R31). -/
theorem append4_eq_iff (a b c d : Byte) (v : Long) :
    a ++ b ++ c ++ d = v ↔
      a = v.extractLsb' 24 8 ∧ b = v.extractLsb' 16 8 ∧ c = v.extractLsb' 8 8 ∧ d = v.extractLsb' 0 8 := by
  simp only [← BitVec.toNat_inj, extractLsb'_eq_ofNat, toNat_append_byte, BitVec.toNat_ofNat]
  omega

theorem memRead8_readsLayout : ReadsLayout 1 (fun b => [b]) memRead8 := by
  intro P o h v y
  rw [List.drop_eq_getElem_cons (by omega), List.singleton_append, List.cons.injEq, memRead8]

theorem memRead16_readsLayout : ReadsLayout 2 bytes16 memRead16 := by
  intro P o h v y
  rw [memRead16, append2_eq_iff, bytes16, List.drop_eq_getElem_cons (by omega), List.drop_eq_getElem_cons (by omega)]
  simp only [List.cons_append, List.nil_append, List.cons.injEq, and_assoc]

theorem memRead32_readsLayout : ReadsLayout 4 bytes32 memRead32 := by
  intro P o h v y
  rw [memRead32, append4_eq_iff, bytes32, List.drop_eq_getElem_cons (by omega), List.drop_eq_getElem_cons (by omega),
    List.drop_eq_getElem_cons (by omega), List.drop_eq_getElem_cons (by omega)]
  simp only [List.cons_append, List.nil_append, List.cons.injEq, and_assoc]

/-! ### Runs of fields -/

section Run

variable {α : Type} {w : Nat} {bytes : α → List Byte} {read : (P : List Byte) → (o : Nat) → o + w ≤ P.length → α}

/-- Field `i` of a run of fields stands at `o + w * i`. -/
theorem ReadsLayout.list (hr : ReadsLayout w bytes read) (P : List Byte) (o : Nat) (l : List α)
    (h : ∀ i, i < l.length → o + w * i + w ≤ P.length) (y : List Byte) :
    P.drop o = l.flatMap bytes ++ y ↔
      (∀ i (hi : i < l.length), read P (o + w * i) (h i hi) = l[i]) ∧ P.drop (o + w * l.length) = y := by
  induction l generalizing o with
  | nil => simp
  | cons x l ih =>
    have hshift : ∀ i, o + w * (i + 1) = o + w + w * i := fun i => by rw [Nat.mul_succ]; omega
    have hfirst : o + w ≤ P.length := h 0 (Nat.succ_pos _)
    rw [List.flatMap_cons, List.append_assoc, hr P o hfirst,
      ih (o + w) fun i hi => hshift i ▸ h (i + 1) (Nat.succ_lt_succ hi)]
    simp only [List.length_cons, Nat.forall_lt_succ_left', hshift, List.getElem_cons_zero, List.getElem_cons_succ,
      Nat.mul_zero, Nat.add_zero, and_assoc]

theorem ReadsLayout.vector (hr : ReadsLayout w bytes read) (P : List Byte) (o : Nat) {n : Nat} (v : Vector α n)
    (h : ∀ i : Fin n, o + w * i.val + w ≤ P.length) (y : List Byte) :
    P.drop o = v.toList.flatMap bytes ++ y ↔
      Vector.ofFn (fun i : Fin n => read P (o + w * i.val) (h i)) = v ∧ P.drop (o + w * n) = y := by
  rw [hr.list P o v.toList (fun i hi => h ⟨i, by simpa using hi⟩), Vector.ext_iff]
  simp

end Run

/-! ### The payload layouts -/

/-- The two-byte payload of SETID (R114, R115). -/
theorem bytes16_eq_iff {P : List Byte} (h : P.length = 2) (v : Half) :
    bytes16 v = P ↔ memRead16 P 0 (by omega) = v := by
  have hlayout : bytes16 v = P ↔ P.drop 0 = bytes16 v ++ [] := by simp [eq_comm]
  rw [hlayout, memRead16_readsLayout P 0 (by omega)]
  simp [List.drop_of_length_le, h]

/-- The layout of R34. -/
theorem rawPayload_eq_iff {P : List Byte} (h : P.length = 91) (i : Half) (c : Long) (u : Vector Half 18)
    (t : Vector Half 24) : rawPayload i c u t = P ↔ P.head? = some rawSubtype ∧ readRaw P h = .sampleRaw i c u t := by
  have hlayout : rawPayload i c u t = P ↔ P.drop 0 = [rawSubtype] ++ (bytes16 i ++ (bytes32 c ++
      (u.toList.flatMap bytes16 ++ (t.toList.flatMap bytes16 ++ [])))) := by simp [rawPayload, eq_comm]
  rw [hlayout, memRead8_readsLayout P 0 (by omega), memRead16_readsLayout P 1 (by omega),
    memRead32_readsLayout P 3 (by omega), memRead16_readsLayout.vector P 7 u (by omega),
    memRead16_readsLayout.vector P 43 t (by omega)]
  simp [List.drop_of_length_le, h, head?_eq_memRead8 (P := P) (by omega), readRaw]

/-- The layout of R35. -/
theorem quatPayload_eq_iff {P : List Byte} (h : P.length = 87) (s : Byte) (i : Half) (c : Long) (q : Vector Long 8)
    (t : Vector Half 24) : quatPayload s i c q t = P ↔ readQuat P h = .sampleQuat s i c q t := by
  have hlayout : quatPayload s i c q t = P ↔ P.drop 0 = [s] ++ (bytes16 i ++ (bytes32 c ++
      (q.toList.flatMap bytes32 ++ (t.toList.flatMap bytes16 ++ [])))) := by simp [quatPayload, eq_comm]
  rw [hlayout, memRead8_readsLayout P 0 (by omega), memRead16_readsLayout P 1 (by omega),
    memRead32_readsLayout P 3 (by omega), memRead32_readsLayout.vector P 7 q (by omega),
    memRead16_readsLayout.vector P 39 t (by omega)]
  simp [List.drop_of_length_le, h, readQuat]

/-- The layout of R113. -/
theorem infoPayload_eq_iff {P : List Byte} (h : P.length = 18) (d r : Byte) (i : Half) (a n g : Long) (e r' : Byte) :
    infoPayload d r i a n g e r' = P ↔ readInfo P h = .infoRsp d r i a n g e r' := by
  have hlayout : infoPayload d r i a n g e r' = P ↔ P.drop 0 = [d] ++ ([r] ++ (bytes16 i ++ (bytes32 a ++ (bytes32 n ++
      (bytes32 g ++ ([e] ++ ([r'] ++ []))))))) := by simp [infoPayload, eq_comm]
  rw [hlayout, memRead8_readsLayout P 0 (by omega), memRead8_readsLayout P 1 (by omega),
    memRead16_readsLayout P 2 (by omega), memRead32_readsLayout P 4 (by omega), memRead32_readsLayout P 8 (by omega),
    memRead32_readsLayout P 12 (by omega), memRead8_readsLayout P 16 (by omega), memRead8_readsLayout P 17 (by omega)]
  simp [List.drop_of_length_le, h, readInfo]

theorem rawPayload_length (i : Half) (c : Long) (u : Vector Half 18) (t : Vector Half 24) :
    (rawPayload i c u t).length = 91 := by
  simp [rawPayload, bytes16, bytes32]

theorem quatPayload_length (s : Byte) (i : Half) (c : Long) (q : Vector Long 8) (t : Vector Half 24) :
    (quatPayload s i c q t).length = 87 := by
  simp [quatPayload, bytes16, bytes32]

theorem infoPayload_length (d r : Byte) (i : Half) (a n g : Long) (e r' : Byte) :
    (infoPayload d r i a n g e r').length = 18 := rfl

end Sys2Proof.Encoding
end

section
/-! PROOFS. The decoder and the encoder are inverse to each other (R58). From packet to instruction: each row of the decoder
answers a well-formed instruction whose encoding is the packet. From instruction to packet: each row is found again, because
the tests before it fail on its type, its payload's length or its subtype. -/

open Sys2Proof Sys2Proof.StepKeeps

namespace Sys2Proof.Encoding

/-! ### The decoder on a frame -/

theorem decode_mkFrame_tx (t : Byte) {p : List Byte} (hp : p.length ≤ 253) :
    decode (.frame .tx (mkFrame t p)) = decodeTx t p := by
  simp only [decode, splitFrame_mkFrame t hp]

theorem decode_mkFrame_rx (t : Byte) {p : List Byte} (hp : p.length ≤ 253) :
    decode (.frame .rx (mkFrame t p)) = decodeRx t p := by
  simp only [decode, splitFrame_mkFrame t hp]

/-- What decodes as a frame is one. -/
theorem exists_mkFrame_of_decode {d : Dir} {F : List Byte} {i : Instr} (h : decode (.frame d F) = .ok i) :
    ∃ (t : Byte) (p : List Byte), p.length ≤ 253 ∧ mkFrame t p = F := by
  cases hsplit : splitFrame F with
  | error e => simp [decode, hsplit] at h
  | ok tp => exact ⟨tp.1, tp.2, splitFrame_eq_ok_iff.mp hsplit⟩

/-! ### From packet to instruction -/

/-- The packet is the encoding of the instruction, which is well-formed. -/
def Encodes (i : Instr) (pk : Packet) : Prop := encode i = pk ∧ i.wellFormed = true

/-- The host-to-glove rows: those whose payload is fixed, those with fields, and the two ends of the search without a row. -/
theorem decodeTx_encodes (t : Byte) (p : List Byte) : OnOk (Encodes · (.frame .tx (mkFrame t p))) (decodeTx t p) := by
  fun_cases decodeTx t p
  case case1 ht hp | case2 ht _ hp | case3 ht _ _ hp =>
    subst ht hp
    exact ⟨rfl, rfl⟩
  case case5 h | case6 h | case8 h | case9 h | case11 h | case12 h | case13 h =>
    obtain ⟨rfl, rfl⟩ := h
    exact ⟨rfl, rfl⟩
  case case7 h =>
    obtain ⟨rfl, hp⟩ := h
    exact ⟨by rw [encode, (bytes16_eq_iff hp _).mpr rfl], rfl⟩
  case case10 h =>
    obtain ⟨rfl, -⟩ := h
    exact ⟨rfl, rfl⟩
  case case14 h =>
    obtain ⟨rfl, hp⟩ := h
    match p, hp with
    | [_, _, _, _, _, _], _ => exact ⟨rfl, rfl⟩
  case case4 | case15 => trivial

/-- The glove-to-host rows: the layouts are read back from their fields; the negated subtype of SAMPLE.QUAT (R110) is what its
well-formedness asks for. -/
theorem decodeRx_encodes (t : Byte) (p : List Byte) : OnOk (Encodes · (.frame .rx (mkFrame t p))) (decodeRx t p) := by
  fun_cases decodeRx t p
  case case1 ht h =>
    obtain ⟨hlen, hhead⟩ := h
    exact ⟨by rw [readRaw, encode, (rawPayload_eq_iff hlen _ _ _ _).mpr ⟨hhead, rfl⟩, ht], rfl⟩
  case case2 ht _ h =>
    obtain ⟨hlen, hhead⟩ := h
    refine ⟨by rw [readQuat, encode, (quatPayload_eq_iff hlen _ _ _ _ _).mpr rfl, ht], ?_⟩
    rw [head?_eq_memRead8 (by omega)] at hhead
    exact bne_iff_ne.mpr fun hsub => hhead (congrArg some hsub)
  case case4 h =>
    obtain ⟨rfl, hp⟩ := h
    exact ⟨by rw [readInfo, encode, (infoPayload_eq_iff hp _ _ _ _ _ _ _ _).mpr rfl], rfl⟩
  case case5 h =>
    obtain ⟨rfl, hp⟩ := h
    exact ⟨by rw [encode, (bytes16_eq_iff hp _).mpr rfl], rfl⟩
  case case6 h =>
    obtain ⟨rfl, -⟩ := h
    exact ⟨rfl, rfl⟩
  case case7 h =>
    obtain ⟨rfl, hp⟩ := h
    match p, hp with
    | [_, _, _], _ => exact ⟨rfl, rfl⟩
  case case8 h =>
    obtain ⟨rfl, hp⟩ := h
    match p, hp with
    | [_], _ => exact ⟨rfl, rfl⟩
  case case3 | case9 => trivial

theorem decodeRxByte_encodes (q : RxState) (b : Byte) : Encodes (decodeRxByte q b) (.rxByte q b) := by
  cases q with
  | hunt =>
    rw [decodeRxByte]
    split
    case isTrue h => exact ⟨by rw [h]; rfl, rfl⟩
    case isFalse h => exact ⟨rfl, bne_iff_ne.mpr h⟩
  | _ => exact ⟨rfl, rfl⟩

theorem decodeSdec_encodes (P : List Byte) : Encodes (decodeSdec P) (.sdec P) := by
  rw [decodeSdec]
  split
  case isTrue h => exact ⟨rfl, beq_iff_eq.mpr h⟩
  case isFalse h => exact ⟨rfl, bne_iff_ne.mpr h⟩

/-- Settles O2, kind of packet by kind of packet. -/
theorem encodeDecodeRoundTrip : Obligations.EncodeDecodeRoundTrip := by
  intro pk i h
  cases pk with
  | frame d F =>
    obtain ⟨t, p, hp, rfl⟩ := exists_mkFrame_of_decode h
    cases d with
    | tx => exact (decodeTx_encodes t p).of_eq ((decode_mkFrame_tx t hp).symm.trans h)
    | rx => exact (decodeRx_encodes t p).of_eq ((decode_mkFrame_rx t hp).symm.trans h)
  | rxByte q b =>
    cases h
    exact decodeRxByte_encodes q b
  | sdec P =>
    cases h
    exact decodeSdec_encodes P
  | abort | encode =>
    cases h
    exact ⟨rfl, rfl⟩

/-! ### From instruction to packet -/

theorem memRead16_bytes16 (v : Half) : memRead16 (bytes16 v) 0 (Nat.le_refl 2) = v := (bytes16_eq_iff rfl v).mp rfl

theorem decodeTx_setid (v : Half) : decodeTx tySetid (bytes16 v) = .ok (.setidReq v) :=
  congrArg (fun x => Except.ok (Instr.setidReq x)) (memRead16_bytes16 v)

theorem decodeRx_setid (v : Half) : decodeRx tySetid (bytes16 v) = .ok (.setidRsp v) :=
  congrArg (fun x => Except.ok (Instr.setidRsp x)) (memRead16_bytes16 v)

/-- LABEL.GET has LABEL.SET's type, but an empty payload (R117, R118). -/
theorem decodeTx_label {p : List Byte} (h : p.length = 16) : decodeTx tyLabel p = .ok (.labelSet ⟨p.toArray, h⟩) := by
  have hne : p ≠ [] := List.ne_nil_of_length_pos (by omega)
  simp [decodeTx, tyLabel, tySample, tyStop, tyInfo, tySetid, tyReboot, hne, h]

theorem decodeRx_label {p : List Byte} (h : p.length = 16) : decodeRx tyLabel p = .ok (.labelRsp ⟨p.toArray, h⟩) := by
  simp [decodeRx, tyLabel, tySample, tyInfo, tySetid, h]

theorem decodeRx_info (d r : Byte) (i : Half) (a n g : Long) (e r' : Byte) :
    decodeRx tyInfo (infoPayload d r i a n g e r') = .ok (.infoRsp d r i a n g e r') :=
  congrArg Except.ok ((infoPayload_eq_iff (infoPayload_length d r i a n g e r') d r i a n g e r').mp rfl)

theorem decodeRx_raw (i : Half) (c : Long) (u : Vector Half 18) (t : Vector Half 24) :
    decodeRx tySample (rawPayload i c u t) = .ok (.sampleRaw i c u t) := by
  have hlen := rawPayload_length i c u t
  obtain ⟨hhead, hread⟩ := (rawPayload_eq_iff hlen i c u t).mp rfl
  rw [decodeRx, if_pos rfl, dif_pos ⟨hlen, hhead⟩, hread]

/-- The two sample rows share their type and are told apart by the subtype (R109, R110). -/
theorem decodeRx_quat {s : Byte} (hs : s ≠ rawSubtype) (i : Half) (c : Long) (q : Vector Long 8) (t : Vector Half 24) :
    decodeRx tySample (quatPayload s i c q t) = .ok (.sampleQuat s i c q t) := by
  have hlen := quatPayload_length s i c q t
  have hhead : (quatPayload s i c q t).head? ≠ some rawSubtype := fun h => hs (Option.some.inj h)
  rw [decodeRx, if_pos rfl, dif_neg fun h => hhead h.2, dif_pos ⟨hlen, hhead⟩, (quatPayload_eq_iff hlen s i c q t).mp rfl]

/-- Settles O1, row by row: a row without fields is found by computing, one with fields by its lemma. -/
theorem decodeEncodeRoundTrip : Obligations.DecodeEncodeRoundTrip := by
  intro i h
  cases i with
  | smodeQuat | smodeRaw | smodeOff | stop | infoReq | reboot | labelGet | fwverReq | calibStart | poweroff => rfl
  | sampleRaw i c u t => exact (decode_mkFrame_rx _ (by simp [rawPayload_length])).trans (decodeRx_raw i c u t)
  | sampleQuat s i c q t =>
    exact (decode_mkFrame_rx _ (by simp [quatPayload_length])).trans (decodeRx_quat (bne_iff_ne.mp h) i c q t)
  | infoRsp d r i a n g e r' =>
    exact (decode_mkFrame_rx _ (by simp [infoPayload_length])).trans (decodeRx_info d r i a n g e r')
  | setidReq v => exact (decode_mkFrame_tx _ (by simp [bytes16])).trans (decodeTx_setid v)
  | setidRsp v => exact (decode_mkFrame_rx _ (by simp [bytes16])).trans (decodeRx_setid v)
  | labelSet l => exact (decode_mkFrame_tx _ (by simp)).trans (decodeTx_label l.length_toList)
  | labelRsp l => exact (decode_mkFrame_rx _ (by simp)).trans (decodeRx_label l.length_toList)
  | fwverRsp a b c => exact decode_mkFrame_rx _ (by simp)
  | calibStage s => exact decode_mkFrame_rx _ (by simp)
  | vibro a b c d e r => exact decode_mkFrame_tx _ (by simp)
  | rxDiscard b => exact congrArg Except.ok (if_neg (bne_iff_ne.mp h))
  | sdecRaw P => exact congrArg Except.ok (if_pos (beq_iff_eq.mp h))
  | sdecQuat P => exact congrArg Except.ok (if_neg (bne_iff_ne.mp h))
  | encode | rxSof | rxType | rxLen | rxPayload | rxCsum | rxEnd | abort => rfl

end Sys2Proof.Encoding
end

section
/-! PROOFS. What one write does (R60, R61, R63, R133), for `ENCODE` and for every request at once: a request is an
instruction whose encoding is a host-to-glove frame, and it transmits that frame. -/

open Sys2Proof Sys2Proof.Machine Sys2Proof.Claims Sys2Proof.StepKeeps

namespace Sys2Proof.Transmitting

theorem exec_encode (t : Byte) (p : List Byte) (s : State) : exec (.encode t p) s = .next (transmit t p id s) := rfl

/-- The frame written out in wire order (R40). -/
theorem mkFrame_eq_wire (t : Byte) (p : List Byte) :
    mkFrame t p = [0x24, t, BitVec.ofNat 8 (p.length + 2)] ++ p ++
      [sum8 ([0x24, t, BitVec.ofNat 8 (p.length + 2)] ++ p), 0x23] := rfl

/-- Settles O9: the two clauses are the two lengths of `transmit`, with the frame in wire order. -/
theorem encodeAppendsOrRefuses : Obligations.EncodeAppendsOrRefuses := by
  intro t p s
  refine ⟨fun hp hw => ?_, fun hp => ?_⟩
  · rw [exec_encode, transmit_of_le id hp hw, mkFrame_eq_wire, id]
  · rw [exec_encode, transmit_of_gt id s hp]

/-- A request (R106 to R125) transmits the frame it encodes to. No other row encodes to a host-to-glove frame. -/
theorem exec_of_encode_tx {i : Instr} {F : List Byte} (h : encode i = .frame .tx F) :
    ∃ ty p, p.length ≤ 253 ∧ mkFrame ty p = F ∧
      ∀ s, exec i s = .next (transmit ty p (mapSession (noteOfRequest i)) s) := by
  cases i with
  | smodeQuat | smodeRaw | smodeOff | stop | infoReq | setidReq | reboot | labelGet | labelSet | fwverReq | calibStart
    | poweroff | vibro =>
    cases h
    exact ⟨_, _, by simp [bytes16], rfl, fun _ => rfl⟩
  | _ => cases h

/-- Which row sent the frame is not seen when its write times out: nothing is noted of the request. -/
theorem exec_of_encode_tx_of_timeout {i : Instr} {F : List Byte} {s : State} (h : encode i = .frame .tx F)
    (hw : s.writeTimeouts.headD false = true) : exec i s = .next (s.timeOutWrite F) := by
  obtain ⟨ty, p, hp, rfl, hexec⟩ := exec_of_encode_tx h
  rw [hexec, transmit_of_timeout _ hp hw]

/-- Settles O12: the one next state is the model's timed-out write of the frame. -/
theorem writeTimeoutReachesHost : Obligations.WriteTimeoutReachesHost := by
  intro s t p hp hw
  refine ⟨s.timeOutWrite (mkFrame t p), ?_, ?_, fun i hi => exec_of_encode_tx_of_timeout hi hw⟩
  · rw [State.timeOutWrite, Session.surfaced_timeoutError]
  · rw [exec_encode, transmit_of_timeout id hp hw]

end Sys2Proof.Transmitting
end

section
/-! PROOFS. The RX byte-steps one by one (R65 to R73) and `ABORT` (R77): what the step of an item at the head of `RX_STREAM`
runs, and the next state of each byte-step in each of its cases. -/

open Sys2Proof Sys2Proof.Machine Sys2Proof.Claims Sys2Proof.StepKeeps

namespace Sys2Proof.FrameDecode

/-! ### What is fetched and run -/

theorem fetch_of_receiving {s : State} (hr : Receiving s) : fetch s = fetchRx s := by
  simp [fetch, hr.1, hr.2]

theorem fetch_of_hostTurn {s : State} (ht : HostTurn s) : fetch s = fetchCall s := by
  obtain ⟨hopen, hcall, hseq⟩ := ht
  simp [fetch, fetchHost, hopen, hcall, hseq]

theorem step_of_fetch {s s' : State} {pk : Packet} {i : Instr} (hf : fetch s = .packet pk s') (hd : decode pk = .ok i) :
    step s = exec i s' := by
  rw [step_eq_runFetched, hf, runFetched_packet s' hd]

theorem fetch_byte {s : State} {b : Byte} {rest : List RxItem} (hr : Receiving s) (hs : s.rxStream = .byte b :: rest) :
    fetch s = .packet (.rxByte s.rxState b) (s.setStream rest) := by
  simp only [fetch_of_receiving hr, fetchRx, hs]

theorem fetch_abort {s : State} {rest : List RxItem} (hr : Receiving s) (hs : s.rxStream = .abort :: rest) :
    fetch s = .packet .abort (s.setStream rest) := by
  simp only [fetch_of_receiving hr, fetchRx, hs]

theorem fetch_frame {s : State} {F : List Byte} {i : Instr} {rest : List RxItem} (hr : Receiving s)
    (hs : s.rxStream = .frame F :: rest) (hd : decode (.frame .rx F) = .ok i) :
    fetch s = .packet (.frame .rx F) (s.setStream rest) := by
  simp only [fetch_of_receiving hr, fetchRx, hs, hd]

/-- The byte at the head of `RX_STREAM` runs the byte-step of the current `RX_STATE` (R65). -/
theorem step_byte {s : State} {b : Byte} {rest : List RxItem} (hr : Receiving s) (hs : s.rxStream = .byte b :: rest) :
    step s = exec (decodeRxByte s.rxState b) (s.setStream rest) :=
  step_of_fetch (fetch_byte hr hs) rfl

theorem step_byte_eq_rxStep {s : State} {b : Byte} {rest : List RxItem} (hr : Receiving s)
    (hs : s.rxStream = .byte b :: rest) : step s = rxStep b (s.setStream rest) := by
  rw [step_byte hr hs, rxStep_eq_exec, State.setStream_rxState]

/-- The same with `RX_STATE` known: the byte-step that the decoder selects there. -/
theorem step_byte_of_rxState {s : State} {b : Byte} {rest : List RxItem} {q : RxState} (hr : Receiving s)
    (hq : s.rxState = q) (hs : s.rxStream = .byte b :: rest) :
    step s = exec (decodeRxByte q b) (s.setStream rest) := by
  rw [step_byte hr hs, hq]

/-- Settles O58: each source of packets by the branch of the fetch that serves it. -/
theorem stepRunsTheDecodedInstruction : Obligations.StepRunsTheDecodedInstruction := by
  refine ⟨fun s s' pk i => step_of_fetch, fun s b rest => fetch_byte, fun s rest => fetch_abort, ?frame, ?send, ?encode⟩
  case frame =>
    intro s F i rest hr hs hd
    exact step_of_fetch (fetch_frame hr hs hd) hd
  case send =>
    intro s F i cs ht hs hd
    have hf : fetch s = .packet (.frame .tx F) (s.setCalls cs) := by simp only [fetch_of_hostTurn ht, fetchCall, hs]
    exact step_of_fetch hf hd
  case encode =>
    intro s t p cs ht hs
    have hf : fetch s = .packet (.encode t p) (s.setCalls cs) := by simp only [fetch_of_hostTurn ht, fetchCall, hs]
    exact step_of_fetch hf rfl

/-- Settles O3: each word is, byte for byte, the encoding of its instruction, and encodings decode (O1). -/
theorem literalWordsDecode : Obligations.LiteralWordsDecode := by
  have decodes : ∀ {i : Instr} {pk : Packet}, i.wellFormed = true → encode i = pk → decode pk = .ok i := by
    rintro i _ hi rfl
    exact Encoding.decodeEncodeRoundTrip i hi
  exact ⟨decodes rfl (by decide), decodes rfl (by decide), decodes rfl (by decide), decodes rfl (by decide),
    decodes rfl (by decide), decodes rfl (by decide), decodes rfl (by decide), decodes rfl rfl, decodes rfl rfl,
    decodes rfl rfl⟩

/-! ### Errors and delivery as the statements write them -/

theorem raise_packetError_eq_afterError (c : ErrCause) (s : State) :
    raise (.packetError c) s = afterError s (.pktErr c) (.packetError c) := by
  simp [raise_packetError, afterError]

theorem raise_timeoutError_eq_afterError (s : State) :
    raise .timeoutError s = afterError s .timeout .timeoutError := by
  simp [raise_timeoutError, afterError, Session.surfaced_timeoutError]

theorem deliver_eq_afterAccept (ty : Byte) (p : List Byte) (s : State) : deliver ty p s = afterAccept s ty p :=
  deliver_eq ty p s

/-! ### HUNT, TYPE, CSUM and ABORT -/

/-- Settles O17: `0x24` in `HUNT` selects `RX.SOF`. -/
theorem startMarkerOpensFrame : Obligations.StartMarkerOpensFrame :=
  ⟨fun _ => rfl, fun _ _ hr hq hs => step_byte_of_rxState hr hq hs⟩

/-- Settles O18: in `TYPE` every byte selects `RX.TYPE`. -/
theorem typeByteIsLatched : Obligations.TypeByteIsLatched :=
  ⟨fun _ _ => rfl, fun _ _ _ hr hq hs => step_byte_of_rxState hr hq hs⟩

/-- Settles O21: in `CSUM` every byte selects `RX.CSUM`. -/
theorem checksumByteIsLatched : Obligations.ChecksumByteIsLatched :=
  ⟨fun _ _ => rfl, fun _ _ _ hr hq hs => step_byte_of_rxState hr hq hs⟩

theorem exec_abort_eq (s : State) : exec .abort s = .next (afterError s .timeout .timeoutError) :=
  congrArg Host.Outcome.next (raise_timeoutError_eq_afterError s)

/-- Settles O23: `ABORT` raises `TimeoutError`, which is fetched in every `RX_STATE` alike. -/
theorem abortAbandonsFrame : Obligations.AbortAbandonsFrame :=
  ⟨exec_abort_eq, fun s rest hr hs => (step_of_fetch (fetch_abort hr hs) rfl).trans (exec_abort_eq (s.setStream rest))⟩

/-! ### LEN -/

theorem execRxLen_of_lt {b : Byte} (h : b.toNat < 2) (s : State) :
    execRxLen b s = .next (raise (.packetError lenBad) (s.latchLen b)) := if_pos h

theorem execRxLen_of_eq {b : Byte} (h : b.toNat = 2) (s : State) :
    execRxLen b s = .next (((s.latchLen b).setRxState .csum).emit .none) := by
  rw [execRxLen, if_neg (by omega), if_pos h]

theorem execRxLen_of_gt {b : Byte} (h : 2 < b.toNat) (s : State) :
    execRxLen b s = .next (((s.latchLen b).setRxState .payload).emit .none) := by
  rw [execRxLen, if_neg (by omega), if_neg (by omega)]

/-- Settles O19, one clause per range of the length byte. -/
theorem lengthByteIsLatched : Obligations.LengthByteIsLatched := by
  refine ⟨fun b s => ⟨fun h => ?_, fun h => execRxLen_of_eq h s, fun h => execRxLen_of_gt h s⟩,
    fun s b rest hr hq hs => step_byte_of_rxState hr hq hs⟩
  exact (execRxLen_of_lt h s).trans (congrArg _ (raise_packetError_eq_afterError lenBad (s.latchLen b)))

/-! ### PAYLOAD -/

theorem execRxPayload_of_lt (b : Byte) {s : State} (h : s.rxCnt.toNat < 253) :
    execRxPayload b s = .next { s with
      rxBuf := Memory.write s.rxBuf s.rxCnt.toNat b
      rxSum := s.rxSum + b
      rxCnt := s.rxCnt + 1
      rxState := if s.rxCnt.toNat + 3 = s.rxLen.toNat then .csum else s.rxState
      event := .none } := if_pos h

theorem execRxPayload_of_ge (b : Byte) {s : State} (h : 253 ≤ s.rxCnt.toNat) :
    execRxPayload b s = .fault (.noSuchBufEntry s.rxCnt.toNat) := if_neg (Nat.not_lt.mpr h)

/-- Settles O20: the new buffer is the write of the byte, which keeps the canonical form and every other entry (R15). -/
theorem payloadByteIsStored : Obligations.PayloadByteIsStored := by
  refine ⟨fun b s hwf hcnt => ?_, fun b s => execRxPayload_of_ge b,
    fun s b rest hr hq hs => step_byte_of_rxState hr hq hs⟩
  have hlast : ((s.rxCnt.toNat : Int) + 1 = (s.rxLen.toNat : Int) - 2) = (s.rxCnt.toNat + 3 = s.rxLen.toNat) :=
    propext (by omega)
  refine ⟨Memory.write s.rxBuf s.rxCnt.toNat b, Memory.write_wf hwf hcnt, fun i => Memory.read_write hwf, ?_⟩
  simp only [hlast]
  exact execRxPayload_of_lt b hcnt

/-! ### END -/

/-- Validation (R73) passes exactly when both trailer bytes are right. -/
theorem endCause_eq_zero_iff {cs sum b : Byte} : endCause cs sum b = 0 ↔ cs = sum ∧ b = endMarker := by
  by_cases hcs : cs = sum <;> by_cases hb : b = endMarker <;> simp [endCause, hcs, hb, csumBad, endBad]

theorem endCause_of_csumBad {cs sum b : Byte} (hcs : cs ≠ sum) (hb : b = endMarker) : endCause cs sum b = 0b001 := by
  simp [endCause, hcs, hb, csumBad]

theorem endCause_of_endBad {cs sum b : Byte} (hcs : cs = sum) (hb : b ≠ endMarker) : endCause cs sum b = 0b010 := by
  simp [endCause, hcs, hb, endBad]

theorem endCause_of_bothBad {cs sum b : Byte} (hcs : cs ≠ sum) (hb : b ≠ endMarker) : endCause cs sum b = 0b011 := by
  simp [endCause, hcs, hb, csumBad, endBad]

theorem endCause_ne_zero {cs sum b : Byte} (h : cs ≠ sum ∨ b ≠ endMarker) : endCause cs sum b ≠ 0 := by
  rw [ne_eq, endCause_eq_zero_iff]
  tauto

/-- Validation comes first: a cause that is not zero is raised, whatever the type is (R74). -/
theorem execRxEnd_of_cause {b : Byte} {s : State} {c : ErrCause} (h : endCause s.rxCsum s.rxSum b = c) (hc : c ≠ 0) :
    execRxEnd b s = .next (raise (.packetError c) s) := by
  subst h
  exact if_pos hc

theorem execRxEnd_of_accept {b : Byte} {s : State} (hcs : s.rxCsum = s.rxSum) (hb : b = endMarker)
    (hty : s.rxType = s.expectedType) (hcnt : s.rxCnt.toNat ≤ 253) :
    execRxEnd b s = .next (deliver s.rxType s.payloadSoFar s) := by
  rw [execRxEnd, if_neg (not_not.mpr (endCause_eq_zero_iff.mpr ⟨hcs, hb⟩)), if_pos hty]
  exact if_pos hcnt

theorem execRxEnd_of_overlong {b : Byte} {s : State} (hcs : s.rxCsum = s.rxSum) (hb : b = endMarker)
    (hty : s.rxType = s.expectedType) (hcnt : 253 < s.rxCnt.toNat) : execRxEnd b s = .fault (.noSuchBufEntry 253) := by
  rw [execRxEnd, if_neg (not_not.mpr (endCause_eq_zero_iff.mpr ⟨hcs, hb⟩)), if_pos hty]
  exact if_neg (Nat.not_le.mpr hcnt)

/-- The type filter (R75). -/
theorem execRxEnd_of_skip {b : Byte} {s : State} (hcs : s.rxCsum = s.rxSum) (hb : b = endMarker)
    (hty : s.rxType ≠ s.expectedType) : execRxEnd b s = .next ((s.setRxState .hunt).emit .none) := by
  rw [execRxEnd, if_neg (not_not.mpr (endCause_eq_zero_iff.mpr ⟨hcs, hb⟩)), if_neg hty]

/-- Settles O22: three causes, acceptance, the stop and the skip. -/
theorem endByteJudgesFrame : Obligations.EndByteJudgesFrame := by
  refine ⟨fun b s => ?_, fun s b rest hr hq hs => step_byte_of_rxState hr hq hs⟩
  have reported : ∀ {c : ErrCause}, endCause s.rxCsum s.rxSum b = c → c ≠ 0 →
      exec (.rxEnd b) s = .next (afterError s (.pktErr c) (.packetError c)) := fun h hc =>
    (execRxEnd_of_cause h hc).trans (congrArg _ (raise_packetError_eq_afterError _ s))
  exact ⟨fun hcs hb => reported (endCause_of_csumBad hcs hb) (by decide),
    fun hcs hb => reported (endCause_of_endBad hcs hb) (by decide),
    fun hcs hb => reported (endCause_of_bothBad hcs hb) (by decide),
    fun hcs hb hty hcnt => (execRxEnd_of_accept hcs hb hty hcnt).trans (congrArg _ (deliver_eq_afterAccept _ _ s)),
    execRxEnd_of_overlong, execRxEnd_of_skip⟩

end Sys2Proof.FrameDecode
end

section
/-! PROOFS. The decoder never stops by itself (R24, R65): as long as `RX_CNT` fits `RX_LEN` every byte has a next state, and
every byte-step keeps that, whether a `DecodeNext` is in progress or not. The transition table (R71) and the machine's
progress follow. -/

open Sys2Proof Sys2Proof.Machine Sys2Proof.Claims Sys2Proof.StepKeeps

namespace Sys2Proof.FrameDecode

open Host (Outcome)

/-! ### What an error and a delivery leave -/

@[simp] theorem raise_packetError_rxState (c : ErrCause) (s : State) : (raise (.packetError c) s).rxState = .hunt := by
  rw [raise_packetError]

@[simp] theorem raise_packetError_event (c : ErrCause) (s : State) : (raise (.packetError c) s).event = .pktErr c := by
  rw [raise_packetError]

@[simp] theorem deliver_rxState (ty : Byte) (p : List Byte) (s : State) : (deliver ty p s).rxState = .hunt := by
  rw [deliver_eq]

@[simp] theorem deliver_event (ty : Byte) (p : List Byte) (s : State) : (deliver ty p s).event = .accept ty p := by
  rw [deliver_eq]

/-! ### The counts fit -/

/-- The part of the invariant that keeps `RX_CNT` inside `RX_BUF` (R24, I1 and I2); it does not speak of the call. -/
structure CountsFit (s : State) : Prop where
  payload : s.rxState = .payload → s.rxCnt.toNat + 2 < s.rxLen.toNat
  trailer : s.rxState = .csum ∨ s.rxState = .endMark → s.rxCnt.toNat + 2 = s.rxLen.toNat

theorem CountsFit.of_inv {s : State} (hi : Inv s) : CountsFit s :=
  ⟨fun hq => (hi.payloadCount hq).2, fun hq => (hi.trailerCount hq).2⟩

theorem CountsFit.setStream {s : State} (hf : CountsFit s) (items : List RxItem) : CountsFit (s.setStream items) :=
  ⟨hf.payload, hf.trailer⟩

/-- Where no payload byte and no trailer byte is awaited nothing is asked. -/
theorem CountsFit.of_noCount {s : State} (hq : s.rxState = .hunt ∨ s.rxState = .type ∨ s.rxState = .len) :
    CountsFit s := by
  rcases hq with hq | hq | hq <;> constructor <;> simp [hq]

theorem rxStep_of_rxState {s : State} {q : RxState} (hq : s.rxState = q) (b : Byte) :
    rxStep b s = exec (decodeRxByte q b) s := by
  rw [rxStep_eq_exec, hq]

/-- Every byte has a next state (R65). -/
theorem CountsFit.exists_rxStep {s : State} (hf : CountsFit s) (b : Byte) : ∃ t, rxStep b s = .next t := by
  cases hq : s.rxState <;> rw [rxStep_of_rxState hq, decodeRxByte]
  case hunt => split <;> exact ⟨_, rfl⟩
  case type | csum => exact ⟨_, rfl⟩
  case len =>
    rcases Nat.lt_trichotomy b.toNat 2 with h | h | h
    · exact ⟨_, execRxLen_of_lt h s⟩
    · exact ⟨_, execRxLen_of_eq h s⟩
    · exact ⟨_, execRxLen_of_gt h s⟩
  case payload =>
    have hfit := hf.payload hq
    exact ⟨_, execRxPayload_of_lt b (by omega)⟩
  case endMark =>
    have hfit := hf.trailer (.inr hq)
    by_cases hok : s.rxCsum = s.rxSum ∧ b = endMarker
    · obtain ⟨hcs, hb⟩ := hok
      by_cases hty : s.rxType = s.expectedType
      · exact ⟨_, execRxEnd_of_accept hcs hb hty (by omega)⟩
      · exact ⟨_, execRxEnd_of_skip hcs hb hty⟩
    · exact ⟨_, execRxEnd_of_cause rfl (endCause_eq_zero_iff.not.mpr hok)⟩

/-- Every byte-step keeps the counts fitting: `RX.LEN` starts the count, `RX.PAYLOAD` advances it and leaves `PAYLOAD` when it
is complete, and the other steps either leave it or end the frame. -/
theorem CountsFit.rxStep {b : Byte} {s t : State} (hf : CountsFit s) (h : rxStep b s = .next t) : CountsFit t := by
  rcases rxStep_next_cases h with ⟨hq, -, rfl⟩ | ⟨-, -, rfl⟩ | ⟨-, rfl⟩ | ⟨-, -, rfl⟩ | ⟨-, hlen, rfl⟩ |
    ⟨-, hlen, rfl⟩ | ⟨hq, -, rfl⟩ | ⟨hq, rfl⟩ | ⟨-, -, rfl⟩ | ⟨-, -, -, -, rfl⟩ | ⟨-, -, -, rfl⟩
  · exact CountsFit.of_noCount (.inl hq)
  · exact CountsFit.of_noCount (.inr (.inl rfl))
  · exact CountsFit.of_noCount (.inr (.inr rfl))
  · exact CountsFit.of_noCount (.inl (raise_packetError_rxState _ _))
  · exact ⟨by simp, fun _ => hlen.symm⟩
  · exact ⟨fun _ => hlen, by simp⟩
  · have hfit := hf.payload hq
    have hsucc : (s.rxCnt + 1).toNat = s.rxCnt.toNat + 1 := by bv_omega
    by_cases hlast : s.rxCnt.toNat + 3 = s.rxLen.toNat
    · exact ⟨by simp [hlast], fun _ => by simp only [hsucc]; omega⟩
    · exact ⟨fun _ => by simp only [hsucc]; omega, by simp [hlast]⟩
  · exact ⟨by simp, fun _ => hf.trailer (.inl hq)⟩
  · exact CountsFit.of_noCount (.inl (raise_packetError_rxState _ _))
  · exact CountsFit.of_noCount (.inl (deliver_rxState _ _ _))
  · exact CountsFit.of_noCount (.inl rfl)

/-- Every run of bytes has a next state, from any state of the decoder in which the counts fit (R65, R83). -/
theorem CountsFit.exists_receive {s : State} (hf : CountsFit s) (F : List Byte) : ∃ t, receive F s = .next t := by
  induction F generalizing s with
  | nil => exact ⟨s, rfl⟩
  | cons b bs ih =>
    obtain ⟨u, hu⟩ := hf.exists_rxStep b
    by_cases he : u.event = .none
    · rw [receive_cons_none hu he]
      exact ih (hf.rxStep hu)
    · exact ⟨_, receive_cons_event hu he⟩

/-! ### One byte -/

/-- Settles O25: the byte has a next state, and no byte-step touches the rest of `RX_STREAM`. -/
theorem everyByteIsConsumedByOneStep : Obligations.EveryByteIsConsumedByOneStep := by
  intro s b rest hi hr hs
  obtain ⟨t, ht⟩ := ((CountsFit.of_inv hi).setStream rest).exists_rxStep b
  exact ⟨t, (step_byte_eq_rxStep hr hs).trans ht, rxStep_rxStream ht⟩

/-- Settles O24: the next state exists, and each row names the equation of its byte-step. -/
theorem transitionTable : Obligations.TransitionTable := by
  intro s b hi
  obtain ⟨t, ht⟩ := (CountsFit.of_inv hi).exists_rxStep b
  obtain ⟨hlenBad, hlenEmpty, hlenPayload⟩ := lengthByteIsLatched.1 b s
  have run : ∀ {q : RxState} {u : State}, s.rxState = q → exec (decodeRxByte q b) s = .next u → t = u := fun hq hu =>
    Outcome.next.inj (ht.symm.trans ((rxStep_of_rxState hq b).trans hu))
  refine ⟨t, ht, ?discard, ?start, ?type, ?lenBad, ?lenEmpty, ?lenPayload, ?payload, ?payloadLast, ?csum, ?invalid,
    ?accept, ?skip, ?abort⟩
  case discard =>
    intro hq hb
    rw [run (u := s.emit .none) hq (congrArg (exec · s) (if_neg hb))]
    exact ⟨hq, rfl⟩
  case start =>
    rintro hq rfl
    rw [run hq rfl]
    exact ⟨rfl, rfl⟩
  case type | csum =>
    intro hq
    rw [run hq rfl]
    exact ⟨rfl, rfl⟩
  case lenBad =>
    intro hq hb
    rw [run hq (hlenBad hb)]
    exact ⟨rfl, rfl⟩
  case lenEmpty =>
    intro hq hb
    rw [run hq (hlenEmpty hb)]
    exact ⟨rfl, rfl⟩
  case lenPayload =>
    intro hq hb
    rw [run hq (hlenPayload hb)]
    exact ⟨rfl, rfl⟩
  case payload =>
    intro hq hmore
    rw [run hq (execRxPayload_of_lt b (by have := (hi.payloadCount hq).2; omega))]
    exact ⟨(if_neg (by omega)).trans hq, rfl⟩
  case payloadLast =>
    intro hq hlast
    have hfit := (hi.payloadCount hq).2
    rw [run hq (execRxPayload_of_lt b (by omega))]
    exact ⟨if_pos (by omega), rfl⟩
  case invalid =>
    intro hq hbad
    rw [run hq (execRxEnd_of_cause rfl (endCause_ne_zero hbad))]
    exact ⟨raise_packetError_rxState _ s, _, endCause_ne_zero hbad, raise_packetError_event _ s⟩
  case accept =>
    intro hq hcs hb hty
    rw [run hq (execRxEnd_of_accept hcs hb hty hi.countBound)]
    exact ⟨deliver_rxState _ _ s, deliver_event _ _ s⟩
  case skip =>
    intro hq hcs hb hty
    rw [run hq (execRxEnd_of_skip hcs hb hty)]
    exact ⟨rfl, rfl⟩
  case abort => exact ⟨_, exec_abort_eq s, rfl, rfl⟩

/-! ### A response frame and the machine -/

/-- A response (R109 to R123) receives the frame it encodes to. No other row encodes to a glove-to-host frame. -/
theorem exec_of_encode_rx {i : Instr} {F : List Byte} (h : encode i = .frame .rx F) (s : State) :
    exec i s = receive F s := by
  cases i with
  | sampleRaw | sampleQuat | infoRsp | setidRsp | labelRsp | fwverRsp | calibStage =>
    cases h
    rfl
  | _ => cases h

/-- What decodes as a response is received byte for byte. -/
theorem exec_of_decode_rx {i : Instr} {F : List Byte} (h : decode (.frame .rx F) = .ok i) (s : State) :
    exec i s = receive F s :=
  exec_of_encode_rx (Encoding.encodeDecodeRoundTrip _ _ h).1 s

/-- Settles O45: the frame is a run of bytes, and the counts fit also in the middle of another frame. -/
theorem responseFramesRunAnywhere : Obligations.ResponseFramesRunAnywhere := by
  intro s i F hi h
  rw [exec_of_encode_rx h]
  exact (CountsFit.of_inv hi).exists_receive F

/-- In a `DecodeNext` the machine stops only at the end of `RX_STREAM` (R65, R80). -/
theorem exists_step_of_receiving {s : State} (hi : Inv s) (hr : Receiving s) (hs : s.rxStream ≠ []) :
    ∃ t, step s = .next t := by
  obtain ⟨item, rest, hitems⟩ := List.exists_cons_of_ne_nil hs
  obtain ⟨a, ha⟩ := rxItem_action item rest
  rw [ha s hr hitems]
  cases a with
  | receive F => exact ((CountsFit.of_inv hi).setStream rest).exists_receive F
  | abort | expand => exact ⟨_, rfl⟩

/-- On its turn the host stops only without a call, or at bytes that are no request (R12, R143): the case split is the list
of the calls. -/
theorem step_of_hostTurn_cases {s : State} (ht : HostTurn s) :
    (∃ t, step s = .next t) ∨ (step s = .fault .hostIdle ∧ s.hostCalls = []) ∨
    (∃ (F : List Byte) (e : DecodeError) (cs : List HostCall), step s = .refused (.undecodable e) ∧
      s.hostCalls = .send F :: cs ∧ decode (.frame .tx F) = .error e) := by
  rw [step_of_hostTurn ht]
  cases hs : s.hostCalls with
  | nil => exact .inr (.inl ⟨by simp [fetchCall, hs], rfl⟩)
  | cons c cs =>
    cases c with
    | send F =>
      cases hd : decode (.frame .tx F) with
      | error e => exact .inr (.inr ⟨F, e, cs, by simp [fetchCall, hs, runFetched, hd], rfl, hd⟩)
      | ok i =>
        obtain ⟨ty, p, hexec⟩ := transmits_of_decode hd
        exact .inl (by simp [fetchCall, hs, runFetched_packet _ hd, hexec])
    | sdec P =>
      obtain ⟨a, hexec⟩ := exec_decodeSdec P
      exact .inl (by simp [fetchCall, hs, hexec])
    | sdecLast =>
      cases hlast : lastPayload s with
      | none => exact .inl (by simp [fetchCall, hs, hlast])
      | some P =>
        obtain ⟨a, hexec⟩ := exec_decodeSdec P
        exact .inl (by simp [fetchCall, hs, hlast, hexec])
    | calibLoop => cases hcalib : s.session.calib <;> exact .inl (by simp [fetchCall, hs, hcalib])
    | _ => exact .inl (by simp [fetchCall, hs])

/-- Settles O30, agent by agent: after close nobody steps, in a call the decoder does, past a failed entry and on its turn the
host does. -/
theorem machineStopsOnlyWhenNobodySteps : Obligations.MachineStopsOnlyWhenNobodySteps := by
  intro s hi
  cases hopen : s.session.isOpen with
  | false => exact .inr (.inl ⟨by simp [step_eq_runFetched, fetch, hopen], rfl⟩)
  | true =>
    cases hcall : s.inCall with
    | true =>
      have hr : Receiving s := ⟨hopen, hcall⟩
      by_cases hs : s.rxStream = []
      · exact .inr (.inr (.inl ⟨step_of_rxStream_nil hr hs, hr, hs⟩))
      · exact .inl (exists_step_of_receiving hi hr hs)
    | false =>
      cases hseq : s.seqFailed with
      | true => exact .inl ⟨_, step_of_seqFailed hopen hcall hseq⟩
      | false =>
        have ht : HostTurn s := ⟨hopen, hcall, hseq⟩
        rcases step_of_hostTurn_cases ht with hnext | ⟨hidle, hs⟩ | ⟨F, e, cs, hrefused, hs, hd⟩
        · exact .inl hnext
        · exact .inr (.inr (.inr (.inl ⟨hidle, ht, hs⟩)))
        · exact .inr (.inr (.inr (.inr ⟨F, e, cs, hrefused, ht, hs, hd⟩)))

end Sys2Proof.FrameDecode
end

section
/-! PROOFS. What the decoder reads and touches (R74, R75, R78, R84): `EXPECTED_TYPE` only at the end byte and only past
validation, nothing of the transmitting side, and what it delivers has passed every check. -/

open Sys2Proof Sys2Proof.Machine Sys2Proof.Claims Sys2Proof.StepKeeps Sys2Proof.FrameItem

namespace Sys2Proof.FrameDecode

theorem raise_packetError_setExpected (c : ErrCause) (e : Byte) (s : State) :
    raise (.packetError c) (s.setExpected e) = (raise (.packetError c) s).setExpected e := by
  simp only [raise_packetError]
  rfl

/-- Settles O26, byte-step by byte-step: each of their updates commutes with writing `EXPECTED_TYPE`. -/
theorem expectedTypeIsReadOnlyAtEnd : Obligations.ExpectedTypeIsReadOnlyAtEnd := by
  intro s b e hend
  cases hq : s.rxState <;> simp only [rxStep, State.setExpected_rxState, hq]
  case hunt => split <;> rfl
  case type => rfl
  case len =>
    have hlatch : (s.setExpected e).latchLen b = (s.latchLen b).setExpected e := rfl
    simp only [execRxLen, mapNext_ite, mapNext_next, hlatch, raise_packetError_setExpected]
    rfl
  case payload =>
    simp only [execRxPayload, mapNext_ite, mapNext_next, mapNext_fault]
    rfl
  case csum => rfl
  case endMark => exact absurd hq hend

/-- Settles O27: validation reads neither the type nor `EXPECTED_TYPE`. -/
theorem corruptFrameIsReportedWhateverExpected : Obligations.CorruptFrameIsReportedWhateverExpected := by
  intro s b e hq hbad
  have hcause := endCause_ne_zero hbad
  refine ⟨raise (.packetError (endCause s.rxCsum s.rxSum b)) s, _, hcause,
    (rxStep_of_rxState hq b).trans (execRxEnd_of_cause rfl hcause), raise_packetError_event _ s, ?_⟩
  rw [rxStep_of_rxState (s := s.setExpected e) hq b, ← raise_packetError_setExpected]
  exact execRxEnd_of_cause rfl hcause

/-- Settles O32: the two frames of a step, inside a call and outside one. -/
theorem receivingAndTransmittingAreApart : Obligations.ReceivingAndTransmittingAreApart :=
  ⟨fun _ _ => receivingStep_sameOutsideRx, fun _ _ hcall h => (hostStep_frame hcall h).1⟩

/-- The only byte-step that emits `ACCEPT` is `RX.END` past validation and the type filter (R73). -/
theorem rxStep_of_accept {b ty : Byte} {p : List Byte} {s t : State} (h : rxStep b s = .next t)
    (he : t.event = .accept ty p) :
    s.rxState = .endMark ∧ s.rxCsum = s.rxSum ∧ b = endMarker ∧ ty = s.rxType ∧ s.rxType = s.expectedType ∧
      p = s.payloadSoFar ∧ t = deliver ty p s := by
  rcases rxStep_next_cases h with ⟨-, -, rfl⟩ | ⟨-, -, rfl⟩ | ⟨-, rfl⟩ | ⟨-, -, rfl⟩ | ⟨-, -, rfl⟩ | ⟨-, -, rfl⟩ |
    ⟨-, -, rfl⟩ | ⟨-, rfl⟩ | ⟨-, -, rfl⟩ | ⟨hq, hcause, hty, -, rfl⟩ | ⟨-, -, -, rfl⟩
  all_goals simp only [raise_packetError_event, deliver_event, State.emit_event, Event.accept.injEq, reduceCtorEq] at he
  obtain ⟨rfl, rfl⟩ := he
  obtain ⟨hcs, hb⟩ := endCause_eq_zero_iff.mp hcause
  exact ⟨hq, hcs, hb, rfl, hty, rfl, rfl⟩

/-- Settles O34: the checks of `RX.END`, with the running sum and the count as the invariant knows them (R24). -/
theorem deliveredFramesAreValidAndExpected : Obligations.DeliveredFramesAreValidAndExpected := by
  intro s t b ty p rest hi hr hs hstep he
  rw [step_byte_eq_rxStep hr hs] at hstep
  obtain ⟨hq, hcs, hb, rfl, hty, rfl, rfl⟩ := rxStep_of_accept hstep he
  replace hq : s.rxState = .endMark := hq
  have hcount := (hi.trailerCount (.inr hq)).2
  have hsum := hi.runningSum (by simp [hq])
  simp only [State.covered, hq] at hsum
  refine ⟨hq, hty, hb, ?length, hcs.trans hsum, ?results⟩
  case length =>
    rw [State.payloadSoFar, Memory.readPrefix_length]
    exact hcount
  case results =>
    rw [deliver_eq]
    exact if_pos hr.2

end Sys2Proof.FrameDecode
end

section
/-! PROOFS. A run of bytes received in one go (`receive`) and the machine's steps over the same bytes are the same thing (R65,
R80), as long as no event ends the call. Noise in `HUNT` (R66) is the first use. -/

open Sys2Proof Sys2Proof.Machine Sys2Proof.Claims Sys2Proof.StepKeeps Sys2Proof.FrameItem

namespace Sys2Proof.StepKeeps

theorem SameTurn.refl (s : State) : SameTurn s s := ⟨rfl, rfl, rfl, rfl⟩

theorem SameTurn.trans {s t u : State} (h : SameTurn s t) (h' : SameTurn t u) : SameTurn s u :=
  ⟨h'.inCall.trans h.inCall, h'.hostCalls.trans h.hostCalls, h'.results.trans h.results, h'.session.trans h.session⟩

theorem SameTurn.receiving {s t : State} (h : SameTurn s t) (hr : Receiving s) : Receiving t := by
  rwa [Receiving, h.session, h.inCall]

end Sys2Proof.StepKeeps

namespace Sys2Proof.FrameDecode

open Host (Outcome)

/-! ### Steps of the machine -/

theorem run_succ {s t : State} (h : step s = .next t) (k : Nat) : run (k + 1) s = run k t := by
  have hstep : Sys2Proof.core.step s = .next t := h
  simp only [run, Host.Core.run, hstep]
  rfl

theorem run_one {s t : State} (h : step s = .next t) : run 1 s = .next t := run_succ h 0

theorem run_add {s t : State} {j : Nat} (h : run j s = .next t) (k : Nat) : run (j + k) s = run k t := by
  induction j generalizing s with
  | zero =>
    cases h
    rw [Nat.zero_add]
  | succ j ih =>
    cases hstep : step s with
    | next u =>
      rw [run_succ hstep] at h
      rw [Nat.succ_add, run_succ hstep, ih h]
    | fault r | refused r =>
      have hcore : Sys2Proof.core.step s = step s := rfl
      simp [run, Host.Core.run, hcore, hstep] at h

/-! ### A run of bytes without an event -/

/-- A run that ends without an event: so did its first byte. -/
theorem receive_cons_eq_next {b : Byte} {bs : List Byte} {s t : State} (h : receive (b :: bs) s = .next t)
    (he : t.event = .none) : ∃ u, rxStep b s = .next u ∧ u.event = .none ∧ receive bs u = .next t := by
  cases hb : rxStep b s with
  | next u =>
    by_cases hu : u.event = .none
    · exact ⟨u, rfl, hu, (receive_cons_none hb hu).symm.trans h⟩
    · rw [receive_cons_event hb hu] at h
      cases h
      exact absurd he hu
  | _ => simp [receive, hb] at h

/-- Two runs one after the other. -/
theorem receive_append {F G : List Byte} {s u : State} (h : receive F s = .next u) (he : u.event = .none) :
    receive (F ++ G) s = receive G u := by
  induction F generalizing s with
  | nil => cases h; rfl
  | cons b bs ih =>
    obtain ⟨v, hb, hv, hbs⟩ := receive_cons_eq_next h he
    rw [List.cons_append, receive_cons_none hb hv, ih hbs]

/-- A run without an event consists of two such runs wherever it is cut. -/
theorem receive_append_eq_next {F G : List Byte} {s t : State} (hF : F ≠ []) (h : receive (F ++ G) s = .next t)
    (he : t.event = .none) : ∃ u, receive F s = .next u ∧ u.event = .none ∧ receive G u = .next t := by
  induction F generalizing s with
  | nil => exact absurd rfl hF
  | cons b bs ih =>
    obtain ⟨v, hb, hv, hbs⟩ := receive_cons_eq_next h he
    rw [receive_cons_none hb hv]
    by_cases hnil : bs = []
    · subst hnil
      exact ⟨v, rfl, hv, hbs⟩
    · exact ih hnil hbs

/-- A byte-step without an event leaves the call, its results and the host's record (R17, R80): only an error or a delivery
ends the call. -/
theorem rxStep_sameTurn {b : Byte} {s t : State} (h : rxStep b s = .next t) (he : t.event = .none) : SameTurn s t := by
  rcases rxStep_next_cases h with ⟨-, -, rfl⟩ | ⟨-, -, rfl⟩ | ⟨-, rfl⟩ | ⟨-, -, rfl⟩ | ⟨-, -, rfl⟩ | ⟨-, -, rfl⟩ |
    ⟨-, -, rfl⟩ | ⟨-, rfl⟩ | ⟨-, -, rfl⟩ | ⟨-, -, -, -, rfl⟩ | ⟨-, -, -, rfl⟩
  · exact ⟨rfl, rfl, rfl, rfl⟩
  · exact ⟨rfl, rfl, rfl, rfl⟩
  · exact ⟨rfl, rfl, rfl, rfl⟩
  · simp at he
  · exact ⟨rfl, rfl, rfl, rfl⟩
  · exact ⟨rfl, rfl, rfl, rfl⟩
  · exact ⟨rfl, rfl, rfl, rfl⟩
  · exact ⟨rfl, rfl, rfl, rfl⟩
  · simp at he
  · simp at he
  · exact ⟨rfl, rfl, rfl, rfl⟩

/-- A run of bytes without an event leaves the call, its results, the host's record and the rest of `RX_STREAM`. -/
theorem receive_sameTurn {F : List Byte} {s t : State} (h : receive F s = .next t) (he : t.event = .none) :
    SameTurn s t ∧ t.rxStream = s.rxStream := by
  induction F generalizing s with
  | nil => cases h; exact ⟨SameTurn.refl _, rfl⟩
  | cons b bs ih =>
    obtain ⟨u, hb, hu, hbs⟩ := receive_cons_eq_next h he
    obtain ⟨hturn, hstream⟩ := ih hbs
    exact ⟨(rxStep_sameTurn hb hu).trans hturn, hstream.trans (rxStep_rxStream hb)⟩

/-- A run of bytes without an event carries the rest of `RX_STREAM` along. -/
theorem receive_setStream {F : List Byte} {s t : State} (items : List RxItem) (h : receive F s = .next t)
    (he : t.event = .none) : receive F (s.setStream items) = .next (t.setStream items) := by
  induction F generalizing s with
  | nil => cases h; rfl
  | cons b bs ih =>
    obtain ⟨u, hb, hu, hbs⟩ := receive_cons_eq_next h he
    have hb' : rxStep b (s.setStream items) = .next (u.setStream items) := by
      rw [rxStep_setStream, hb, mapNext_next]
    rw [receive_cons_none hb' hu, ih hbs]

/-! ### The machine's steps over the bytes of `RX_STREAM` -/

/-- The step of a byte, by what the byte does in the state before the fetch. -/
theorem step_of_rxStep {s t : State} {b : Byte} {rest : List RxItem} (hr : Receiving s) (hs : s.rxStream = .byte b :: rest)
    (h : rxStep b s = .next t) : step s = .next (t.setStream rest) := by
  rw [step_byte_eq_rxStep hr hs, rxStep_setStream, h, mapNext_next]

/-- As many steps as bytes (R65). -/
theorem run_of_receive {F : List Byte} {s t : State} {rest : List RxItem} (hr : Receiving s)
    (hs : s.rxStream = bytesOf F ++ rest) (h : receive F s = .next t) (he : t.event = .none) :
    run F.length s = .next (t.setStream rest) := by
  induction F generalizing s t with
  | nil =>
    have hrest : s.rxStream = rest := hs
    cases h
    rw [← hrest]
    rfl
  | cons b bs ih =>
    obtain ⟨u, hb, hu, hbs⟩ := receive_cons_eq_next h he
    rw [List.length_cons, run_succ (step_of_rxStep hr hs hb)]
    have hr' : Receiving (u.setStream (bytesOf bs ++ rest)) := (rxStep_sameTurn hb hu).receiving hr
    have hbs' := receive_setStream (bytesOf bs ++ rest) hbs he
    exact (ih hr' rfl hbs' he :)

/-- After every byte of such a run the call is still waiting, with nothing returned. -/
theorem run_silent {F : List Byte} {s t : State} {rest : List RxItem} (hr : Receiving s)
    (hs : s.rxStream = bytesOf F ++ rest) (h : receive F s = .next t) (he : t.event = .none) {k : Nat}
    (hk : 0 < k) (hkF : k ≤ F.length) :
    ∃ u, run k s = .next u ∧ u.event = .none ∧ u.inCall = true ∧ u.results = s.results := by
  have hlen : (F.take k).length = k := List.length_take_of_le hkF
  have hcut : s.rxStream = bytesOf (F.take k) ++ (bytesOf (F.drop k) ++ rest) := by
    rw [hs, ← List.append_assoc, bytesOf, bytesOf, bytesOf, ← List.map_append, List.take_append_drop]
  rw [← List.take_append_drop k F] at h
  obtain ⟨u, hu, heu, -⟩ := receive_append_eq_next (List.ne_nil_of_length_pos (by omega)) h he
  have hturn := (receive_sameTurn hu heu).1
  have hrun := run_of_receive hr hcut hu heu
  rw [hlen] at hrun
  exact ⟨_, hrun, heu, hturn.inCall.trans hr.2, hturn.results⟩

/-- A run without an event and one byte more. -/
theorem run_of_receive_concat {F : List Byte} {b : Byte} {s u t : State} {rest : List RxItem} (hr : Receiving s)
    (hs : s.rxStream = bytesOf (F ++ [b]) ++ rest) (h : receive F s = .next u) (he : u.event = .none)
    (hb : rxStep b u = .next t) : run (F.length + 1) s = .next (t.setStream rest) := by
  have hcut : s.rxStream = bytesOf F ++ .byte b :: rest := by rw [hs]; simp [bytesOf]
  have hr' : Receiving (u.setStream (.byte b :: rest)) := (receive_sameTurn h he).1.receiving hr
  have hlast : rxStep b (u.setStream (.byte b :: rest)) = .next (t.setStream (.byte b :: rest)) := by
    rw [rxStep_setStream, hb, mapNext_next]
  rw [run_add (run_of_receive hr hcut h he), run_one (step_of_rxStep hr' rfl hlast)]
  rfl

/-! ### Noise -/

theorem rxStep_of_noise {b : Byte} {s : State} (hq : s.rxState = .hunt) (hb : b ≠ 0x24) :
    rxStep b s = .next (s.emit .none) :=
  (rxStep_of_rxState hq b).trans (congrArg (exec · s) (if_neg hb))

/-- A run of noise where no event is shown: nothing at all changes (R66). -/
theorem receive_noise {noise : List Byte} {s : State} (hq : s.rxState = .hunt) (he : s.event = .none)
    (hnoise : ∀ b ∈ noise, b ≠ 0x24) : receive noise s = .next s := by
  induction noise with
  | nil => rfl
  | cons b bs ih =>
    rw [List.forall_mem_cons] at hnoise
    obtain ⟨hb, hbs⟩ := hnoise
    have hsame : s.emit .none = s := by rw [← he]; rfl
    have hstep := rxStep_of_noise hq hb
    rw [hsame] at hstep
    rw [receive_cons_none hstep he, ih hbs]

/-- Settles O16: the first byte of noise takes the event away, the others change nothing. -/
theorem noiseIsDiscarded : Obligations.NoiseIsDiscarded := by
  refine ⟨fun _ _ => rfl, fun s noise rest hr hq hne hnoise hs => ?_⟩
  obtain ⟨b, bs, rfl⟩ := List.exists_cons_of_ne_nil hne
  rw [List.forall_mem_cons] at hnoise
  obtain ⟨hb, hbs⟩ := hnoise
  have hreceive : receive (b :: bs) s = .next (s.emit .none) := by
    rw [receive_cons_none (rxStep_of_noise hq hb) rfl, receive_noise (s := s.emit .none) hq rfl hbs]
  exact run_of_receive hr hs hreceive rfl

end Sys2Proof.FrameDecode
end

section
/-! PROOFS. The call-level `DecodeNext` of R80 and the machine's steps agree, by induction on the items of `RX_STREAM`: each
item is one step, or for a whole frame that is no response one step and then its bytes. -/

open Sys2Proof Sys2Proof.Machine Sys2Proof.Claims Sys2Proof.StepKeeps Sys2Proof.FrameItem

namespace Sys2Proof.FrameDecode

open Host (Outcome)

/-- The steps from `s` come to what the call's outcome says: the state it returns in, or a wait for input. -/
def LeadsTo (s : State) : Outcome State Fault Refusal → Prop
  | .next t => ∃ k, run k s = .next t
  | .fault .awaitingInput => ∃ (k : Nat) (u : State), run k s = .next u ∧ u.rxStream = [] ∧ step u = .fault .awaitingInput
  | _ => True

theorem LeadsTo.of_step {s u : State} {o : Outcome State Fault Refusal} (h : step s = .next u) (ho : LeadsTo u o) :
    LeadsTo s o := by
  match o, ho with
  | .next t, ⟨k, hk⟩ => exact ⟨k + 1, (run_succ h k).trans hk⟩
  | .fault .awaitingInput, ⟨k, v, hk, hv⟩ => exact ⟨k + 1, v, (run_succ h k).trans hk, hv⟩
  | .fault .hostIdle, _ | .fault .sessionClosed, _ | .fault (.noSuchBufEntry _), _ | .refused _, _ => trivial

/-- From every state that receives these items the steps lead to what the loop of R80 makes of them. -/
def LoopAgrees (items : List RxItem) : Prop :=
  ∀ s : State, Receiving s → s.rxStream = items → LeadsTo s (decodeLoop items s)

/-- A byte-step never waits for input: its only stop is an entry outside `RX_BUF`. -/
theorem rxStep_ne_awaitingInput (b : Byte) (s : State) : rxStep b s ≠ .fault .awaitingInput := by
  cases hq : s.rxState <;> rw [rxStep_of_rxState hq, decodeRxByte]
  case hunt => split <;> exact nofun
  case type | csum => exact nofun
  case len =>
    show execRxLen b s ≠ _
    unfold execRxLen
    split_ifs <;> exact nofun
  case payload =>
    show execRxPayload b s ≠ _
    unfold execRxPayload
    split_ifs <;> exact nofun
  case endMark =>
    show execRxEnd b s ≠ _
    unfold execRxEnd
    split_ifs <;> exact nofun

theorem receive_ne_awaitingInput (F : List Byte) (s : State) : receive F s ≠ .fault .awaitingInput := by
  induction F generalizing s with
  | nil => exact nofun
  | cons b bs ih =>
    cases hb : rxStep b s with
    | next u =>
      by_cases hu : u.event = .none
      · rw [receive_cons_none hb hu]
        exact ih u
      · rw [receive_cons_event hb hu]
        exact nofun
    | fault r =>
      have hne := rxStep_ne_awaitingInput b s
      simpa [receive, hb] using hne
    | refused r => simp [receive, hb]

/-- An item whose step receives a run of bytes: without an event the rest follows, with one the call is over. -/
theorem LeadsTo.of_receive {F : List Byte} {s : State} {rest : List RxItem} (hr : Receiving s) (hrest : LoopAgrees rest)
    (hstep : step s = receive F (s.setStream rest)) : LeadsTo s (continueLoop rest (receive F (s.setStream rest))) := by
  cases h : receive F (s.setStream rest) with
  | next t =>
    rw [h] at hstep
    rw [continueLoop]
    split
    case isTrue he =>
      obtain ⟨hturn, hstream⟩ := receive_sameTurn h he
      exact LeadsTo.of_step hstep (hrest t (hturn.receiving hr) hstream)
    case isFalse => exact ⟨1, run_one hstep⟩
  | fault r =>
    cases r with
    | awaitingInput => exact absurd h (receive_ne_awaitingInput F _)
    | _ => trivial
  | refused r => trivial

theorem loopAgrees_byte (b : Byte) {rest : List RxItem} (hrest : LoopAgrees rest) : LoopAgrees (.byte b :: rest) := by
  intro s hr hs
  rw [decodeLoop_byte, ← receive_singleton]
  exact LeadsTo.of_receive hr hrest (by rw [step_byte_eq_rxStep hr hs, receive_singleton])

theorem loopAgrees_bytesOf (F : List Byte) {rest : List RxItem} (hrest : LoopAgrees rest) :
    LoopAgrees (bytesOf F ++ rest) := by
  induction F with
  | nil => exact hrest
  | cons b bs ih => exact loopAgrees_byte b ih

/-- A whole frame: a response is received in one step; any other is replaced by its bytes, which the loop does not tell from
the frame (O46). -/
theorem loopAgrees_frame (F : List Byte) {rest : List RxItem} (hrest : LoopAgrees rest) : LoopAgrees (.frame F :: rest) := by
  intro s hr hs
  cases hd : decode (.frame .rx F) with
  | ok i =>
    have hF : F ≠ [] := by
      rintro rfl
      cases hd
    rw [decodeLoop_frame hF]
    exact LeadsTo.of_receive hr hrest ((step_of_fetch (fetch_frame hr hs hd) hd).trans (exec_of_decode_rx hd _))
  | error e =>
    have hstep : step s = .next (s.setStream (bytesOf F ++ rest)) := by
      rw [step_of_receiving hr]
      simp only [fetchRx, hs, hd]
      rfl
    rw [frameItemIsItsBytes, ← decodeLoop_setStream (bytesOf F ++ rest) (bytesOf F ++ rest)]
    exact LeadsTo.of_step hstep (loopAgrees_bytesOf F hrest _ hr rfl)

theorem loopAgrees (items : List RxItem) : LoopAgrees items := by
  induction items with
  | nil => exact fun s hr hs => ⟨0, s, rfl, hs, step_of_rxStream_nil hr hs⟩
  | cons item rest ih =>
    cases item with
    | byte b => exact loopAgrees_byte b ih
    | abort => exact fun s hr hs => ⟨1, run_one (step_of_fetch (fetch_abort hr hs) rfl)⟩
    | frame F => exact loopAgrees_frame F ih

/-- Settles O47: the host's call is one step, and from there the loop over `RX_STREAM` agrees with the steps. -/
theorem decodeNextAgreesWithSteps : Obligations.DecodeNextAgreesWithSteps := by
  intro s E cs ht hs
  have hstep : step s = .next ((s.setCalls cs).startCall E) := by
    rw [step_of_hostTurn ht]
    simp only [fetchCall, hs, runFetched_quiet]
  have hleads : LeadsTo s (decodeNext E (s.setCalls cs)) :=
    LeadsTo.of_step hstep (loopAgrees s.rxStream ((s.setCalls cs).startCall E) ⟨ht.1, rfl⟩ rfl)
  constructor
  · intro t h
    rwa [show decodeNext E (s.setCalls cs) = .next t from h] at hleads
  · intro h
    rwa [show decodeNext E (s.setCalls cs) = .fault .awaitingInput from h] at hleads

end Sys2Proof.FrameDecode
end

section
/-! PROOFS. A whole frame in a hunting decoder (R81, R82), whatever its checksum byte and end byte are: the decoder comes to
`END` holding the frame, by induction on the payload, and the end byte decides between delivery, skip and error. -/

open Sys2Proof Sys2Proof.Machine Sys2Proof.Claims Sys2Proof.StepKeeps Sys2Proof.Encoding Sys2Proof.FieldsAndChecksum

namespace Sys2Proof.FrameDecode

/-! ### The payload in `RX_BUF` -/

/-- `RX_BUF` after the bytes of `p` were stored from entry 0 on (R70). -/
def storeBytes (m : Memory) (p : List Byte) : Memory := p.zipIdx.foldl (fun m c => m.write c.2 c.1) m

@[simp] theorem storeBytes_nil (m : Memory) : storeBytes m [] = m := rfl

theorem storeBytes_concat (m : Memory) (p : List Byte) (b : Byte) :
    storeBytes m (p ++ [b]) = (storeBytes m p).write p.length b := by
  simp [storeBytes, List.zipIdx_append]

theorem storeBytes_wf {m : Memory} {p : List Byte} (hm : m.wf = true) (hp : p.length ≤ 253) :
    (storeBytes m p).wf = true := by
  induction p using List.reverseRecOn with
  | nil => exact hm
  | append_singleton p b ih =>
    rw [List.length_append, List.length_singleton] at hp
    rw [storeBytes_concat]
    exact Memory.write_wf (ih (by omega)) (show p.length < 253 by omega)

/-- The entries of the payload hold it, and those past it are as before (R15). -/
theorem storeBytes_read {m : Memory} {p : List Byte} (hm : m.wf = true) (hp : p.length ≤ 253) (i : Nat) :
    (storeBytes m p).read i = p[i]?.getD (m.read i) := by
  induction p using List.reverseRecOn with
  | nil => rfl
  | append_singleton p b ih =>
    rw [List.length_append, List.length_singleton] at hp
    rw [storeBytes_concat, Memory.read_write (storeBytes_wf hm (by omega)), ih (by omega)]
    rcases Nat.lt_trichotomy i p.length with h | h | h
    · rw [if_neg (by omega), List.getElem?_append_left h]
    · simp [h]
    · rw [if_neg (by omega), List.getElem?_eq_none (by omega), List.getElem?_eq_none (by simp; omega)]

theorem storeBytes_readPrefix {m : Memory} {p : List Byte} (hm : m.wf = true) (hp : p.length ≤ 253) :
    (storeBytes m p).readPrefix p.length = p := by
  induction p using List.reverseRecOn with
  | nil => rfl
  | append_singleton p b ih =>
    rw [List.length_append, List.length_singleton] at hp ⊢
    rw [storeBytes_concat, Memory.readPrefix_write_succ (storeBytes_wf hm (by omega)), ih (by omega)]

/-! ### The decoder inside a frame -/

/-- `s` after the header of a frame of type `ty` and length byte `l` and the first payload bytes `q`. -/
def midFrame (ty l : Byte) (q : List Byte) (s : State) : State :=
  { s with
    rxState := if q.length + 2 = l.toNat then .csum else .payload
    rxCnt := BitVec.ofNat 8 q.length
    rxType := ty
    rxLen := l
    rxSum := sum8 (startMarker :: ty :: l :: q)
    rxBuf := storeBytes s.rxBuf q
    event := .none }

/-- `s` after a frame of type `ty` and payload `p` up to its checksum byte, which is `cs`. -/
def atEnd (ty : Byte) (p : List Byte) (cs : Byte) (s : State) : State :=
  { midFrame ty (BitVec.ofNat 8 (p.length + 2)) p s with rxState := .endMark, rxCsum := cs }

/-- A length byte of 2 or more begins the payload, which may be empty (R69). -/
theorem execRxLen_of_le {l : Byte} (hl : 2 ≤ l.toNat) (s : State) :
    execRxLen l s = .next (((s.latchLen l).setRxState (if 2 = l.toNat then .csum else .payload)).emit .none) := by
  rcases hl.eq_or_lt with h | h
  · rw [execRxLen_of_eq h.symm, if_pos h]
  · rw [execRxLen_of_gt h, if_neg (by omega)]

/-- Start marker, type and length byte (R67 to R69). -/
theorem receive_header {s : State} (hq : s.rxState = .hunt) (ty : Byte) {l : Byte} (hl : 2 ≤ l.toNat) :
    receive [startMarker, ty, l] s = .next (midFrame ty l [] s) := by
  have hsum : startMarker + ty + l = sum8 [startMarker, ty, l] := by simp [BitVec.add_assoc]
  rw [receive_cons_none (rxStep_of_rxState hq startMarker) rfl, receive_cons_none (rxStep_of_rxState rfl ty) rfl,
    receive_singleton, rxStep_of_rxState rfl l]
  refine (execRxLen_of_le hl _).trans ?_
  rw [midFrame, ← hsum]
  rfl

/-- One payload byte that still has room in the length (R70). -/
theorem rxStep_midFrame (ty b : Byte) {l : Byte} {q : List Byte} (s : State) (h : q.length + 2 < l.toNat) :
    rxStep b (midFrame ty l q s) = .next (midFrame ty l (q ++ [b]) s) := by
  have hq : (midFrame ty l q s).rxState = .payload := if_neg (by omega)
  have hcnt : (midFrame ty l q s).rxCnt.toNat = q.length := Nat.mod_eq_of_lt (by omega)
  have hsum : sum8 (startMarker :: ty :: l :: q) + b = sum8 (startMarker :: ty :: l :: (q ++ [b])) :=
    (sum8_concat (startMarker :: ty :: l :: q) b).symm
  have hsucc : BitVec.ofNat 8 q.length + 1 = BitVec.ofNat 8 (q ++ [b]).length := by
    rw [List.length_append, BitVec.ofNat_add]
    rfl
  have hlast : (q.length + 3 = l.toNat) = ((q ++ [b]).length + 2 = l.toNat) := by simp
  rw [rxStep_of_rxState hq]
  refine (execRxPayload_of_lt b (by omega)).trans ?_
  rw [hcnt, hq]
  simp only [midFrame, hsum, hsucc, hlast, storeBytes_concat]

/-- The rest of the payload, from any byte of it on. -/
theorem receive_midFrame (ty : Byte) {l : Byte} {q r : List Byte} (s : State) (h : q.length + r.length + 2 = l.toNat) :
    receive r (midFrame ty l q s) = .next (midFrame ty l (q ++ r) s) := by
  induction r generalizing q with
  | nil => rw [List.append_nil]; rfl
  | cons b r ih =>
    rw [List.length_cons] at h
    rw [receive_cons_none (rxStep_midFrame ty b s (by omega)) rfl, ih (by simp; omega), List.append_assoc,
      List.singleton_append]

theorem length_untilEnd (ty cs : Byte) (p : List Byte) : (frameBody ty p ++ [cs]).length = p.length + 4 := by
  simp [frameBody_length]

/-- The frame up to its checksum byte, whatever that is. -/
theorem receive_untilEnd {s : State} (hq : s.rxState = .hunt) (ty cs : Byte) {p : List Byte} (hp : p.length ≤ 253) :
    receive (frameBody ty p ++ [cs]) s = .next (atEnd ty p cs s) := by
  have hl := lengthByte_toNat hp
  have hsplit : frameBody ty p ++ [cs] = [startMarker, ty, BitVec.ofNat 8 (p.length + 2)] ++ (p ++ [cs]) := rfl
  have hcsum : (midFrame ty (BitVec.ofNat 8 (p.length + 2)) p s).rxState = .csum := if_pos hl.symm
  rw [hsplit, receive_append (receive_header hq ty (by omega)) rfl,
    receive_append (receive_midFrame ty (q := []) s (by simp [hl])) rfl, receive_singleton]
  exact rxStep_of_rxState hcsum cs

theorem rxCnt_atEnd (ty cs : Byte) {p : List Byte} {s : State} (hp : p.length ≤ 253) :
    (atEnd ty p cs s).rxCnt.toNat = p.length := Nat.mod_eq_of_lt (by omega)

theorem payloadSoFar_atEnd (ty cs : Byte) {p : List Byte} {s : State} (hwf : s.rxBuf.wf = true) (hp : p.length ≤ 253) :
    (atEnd ty p cs s).payloadSoFar = p := by
  rw [State.payloadSoFar, rxCnt_atEnd ty cs hp]
  exact storeBytes_readPrefix hwf hp

theorem frameHeld_atEnd (ty cs : Byte) {p : List Byte} {s : State} (hwf : s.rxBuf.wf = true) (hp : p.length ≤ 253) :
    FrameHeld s (atEnd ty p cs s) ty p := by
  have hread : ∀ i, (atEnd ty p cs s).rxBuf.read i = p[i]?.getD (s.rxBuf.read i) := storeBytes_read hwf hp
  refine ⟨rfl, lengthByte_toNat hp, rxCnt_atEnd ty cs hp, rfl, storeBytes_wf hwf hp, fun i b hb => ?_, fun i hi => ?_⟩
  · rw [hread, hb, Option.getD_some]
  · rw [hread, List.getElem?_eq_none hi, Option.getD_none]

theorem sameOutsideRx_atEnd (ty : Byte) (p : List Byte) (cs : Byte) (s : State) : SameOutsideRx s (atEnd ty p cs s) :=
  ⟨rfl, rfl, rfl, rfl, rfl, rfl, rfl, rfl, rfl⟩

/-! ### The whole frame -/

/-- The frame in wire order, cut before its end byte. -/
theorem mkFrame_eq_concat (ty : Byte) (p : List Byte) :
    mkFrame ty p = frameBody ty p ++ [sum8 (frameBody ty p)] ++ [endMarker] := by
  simp [mkFrame]

/-- A frame of another type leaves the decoder in `HUNT` without an event (R75). -/
theorem receive_mkFrame_of_ne {s : State} (hq : s.rxState = .hunt) {ty : Byte} {p : List Byte} (hp : p.length ≤ 253)
    (hty : ty ≠ s.expectedType) : receive (mkFrame ty p) s =
      .next (((atEnd ty p (sum8 (frameBody ty p)) s).setRxState .hunt).emit .none) := by
  rw [mkFrame_eq_concat, receive_append (receive_untilEnd hq ty _ hp) rfl, receive_singleton]
  exact (rxStep_of_rxState rfl endMarker).trans (execRxEnd_of_skip rfl rfl hty)

/-- Settles O44: the response is received as its frame. -/
theorem unexpectedResponseIsSkipped : Obligations.UnexpectedResponseIsSkipped := by
  intro s i ty p hi hq hp hencode hty
  exact ⟨_, (exec_of_encode_rx hencode s).trans (receive_mkFrame_of_ne hq hp hty), rfl, rfl, rfl, rfl, rfl, rfl,
    sameOutsideRx_atEnd ty p (sum8 (frameBody ty p)) s, frameHeld_atEnd ty (sum8 (frameBody ty p)) hi.bufCanonical hp⟩

/-- Settles O36: the machine's steps are the reception of the frame, which shows no event. -/
theorem wellFormedFrameOfOtherTypeIsSkipped : Obligations.WellFormedFrameOfOtherTypeIsSkipped := by
  intro s ty p rest hi hr hq hp hty hs
  have hskip := receive_mkFrame_of_ne hq hp hty
  have hrun := run_of_receive hr hs hskip rfl
  rw [mkFrame_length] at hrun
  exact ⟨fun k hk hkn => run_silent hr hs hskip rfl hk (by rwa [mkFrame_length]), _, hrun, rfl, rfl, rfl,
    sameOutsideRx_atEnd ty p (sum8 (frameBody ty p)) s, frameHeld_atEnd ty (sum8 (frameBody ty p)) hi.bufCanonical hp⟩

theorem bytesOf_concat (F : List Byte) (b : Byte) (rest : List RxItem) :
    bytesOf (F ++ [b]) ++ rest = bytesOf F ++ .byte b :: rest := by
  simp [bytesOf]

/-- The end byte of a frame of the expected type delivers its payload (R73). -/
theorem rxStep_atEnd_of_accept {s : State} {p : List Byte} (hwf : s.rxBuf.wf = true) (hp : p.length ≤ 253) :
    rxStep endMarker (atEnd s.expectedType p (sum8 (frameBody s.expectedType p)) s) =
      .next (deliver s.expectedType p (atEnd s.expectedType p (sum8 (frameBody s.expectedType p)) s)) := by
  have haccept := execRxEnd_of_accept (s := atEnd s.expectedType p (sum8 (frameBody s.expectedType p)) s) rfl rfl rfl
    ((rxCnt_atEnd _ _ hp).trans_le hp)
  rw [payloadSoFar_atEnd _ _ hwf hp] at haccept
  exact (rxStep_of_rxState rfl endMarker).trans haccept

/-- Settles O35: without an event up to the checksum byte, and the end byte delivers the payload. -/
theorem wellFormedFrameIsAccepted : Obligations.WellFormedFrameIsAccepted := by
  intro s p rest hi hr hq hp hs
  rw [mkFrame_eq_concat] at hs
  have huntil := receive_untilEnd hq s.expectedType (sum8 (frameBody s.expectedType p)) hp
  have hend := rxStep_atEnd_of_accept hi.bufCanonical hp
  have hrun := run_of_receive_concat hr hs huntil rfl hend
  rw [length_untilEnd, deliver_eq] at hrun
  constructor
  · intro k hk hkn
    exact run_silent hr (hs.trans (bytesOf_concat _ _ _)) huntil rfl hk (by rw [length_untilEnd]; omega)
  · exact ⟨_, hrun, rfl, rfl, rfl, rfl, if_pos hr.2, if_pos hr.2,
      sameOutsideRx_atEnd s.expectedType p (sum8 (frameBody s.expectedType p)) s,
      frameHeld_atEnd s.expectedType (sum8 (frameBody s.expectedType p)) hi.bufCanonical hp⟩

/-- A frame with a wrong trailer: after its bytes the cause was raised, whatever the type is (R74, R82). -/
theorem reported_of_trailer {s : State} {ty cs e : Byte} {p : List Byte} {rest : List RxItem} {c : ErrCause} (hi : Inv s)
    (hr : Receiving s) (hq : s.rxState = .hunt) (hp : p.length ≤ 253)
    (hs : s.rxStream = bytesOf (frameBody ty p ++ [cs, e]) ++ rest) (hcause : endCause cs (sum8 (frameBody ty p)) e = c)
    (hc : c ≠ 0) : Reported s (p.length + 5) c ty p rest := by
  have huntil := receive_untilEnd hq ty cs hp
  have hend : rxStep e (atEnd ty p cs s) = .next (raise (.packetError c) (atEnd ty p cs s)) :=
    (rxStep_of_rxState rfl e).trans (execRxEnd_of_cause hcause hc)
  have hcut : frameBody ty p ++ [cs, e] = frameBody ty p ++ [cs] ++ [e] := by simp
  rw [hcut] at hs
  have hrun := run_of_receive_concat hr hs huntil rfl hend
  rw [length_untilEnd, raise_packetError] at hrun
  exact ⟨_, hrun, rfl, rfl, rfl, rfl, if_pos hr.2, if_pos hr.2,
    sameOutsideRx_atEnd ty p cs s, frameHeld_atEnd ty cs hi.bufCanonical hp⟩

/-- A changed payload byte changes the checksum (R44). -/
theorem sum8_frameBody_set_ne (ty : Byte) {p : List Byte} {i : Nat} {b : Byte} (hi : p[i]? ≠ none) (hb : p[i]? ≠ some b) :
    sum8 (frameBody ty p) ≠ sum8 (frameBody ty (p.set i b)) := by
  have hlt : i < p.length := by simpa using hi
  have hbody : ∀ x, frameBody ty (p.set i x) =
      (startMarker :: ty :: BitVec.ofNat 8 (p.length + 2) :: p.take i) ++ x :: p.drop (i + 1) := fun x => by
    rw [frameBody, List.length_set, List.set_eq_take_append_cons_drop, if_pos hlt]
    rfl
  have hold := hbody p[i]
  rw [List.set_getElem_self] at hold
  rw [hold, hbody b]
  intro heq
  exact hb (by rw [List.getElem?_eq_getElem hlt, sum8_replace_eq_iff.mp heq])

/-- A changed type byte changes the checksum (R44). -/
theorem sum8_frameBody_type_ne {ty ty' : Byte} (p : List Byte) (h : ty ≠ ty') :
    sum8 (frameBody ty p) ≠ sum8 (frameBody ty' p) := fun heq =>
  h (sum8_replace_eq_iff (a := [startMarker]).mp heq)

/-- Settles O37: each of the four changes leaves a frame whose trailer does not fit. -/
theorem oneCorruptByteIsReportedAndResynchronised : Obligations.OneCorruptByteIsReportedAndResynchronised := by
  intro s ty p rest hi hr hq hp
  refine ⟨?payload, ?checksum, ?type, ?last⟩
  case payload =>
    intro i b hsome hb hs
    have hlen : (p.set i b).length = p.length := List.length_set
    rw [← hlen] at hs ⊢
    exact reported_of_trailer hi hr hq (hlen ▸ hp) hs (endCause_of_csumBad (sum8_frameBody_set_ne ty hsome hb) rfl)
      (by decide)
  case checksum =>
    intro c hc hs
    exact reported_of_trailer hi hr hq hp hs (endCause_of_csumBad hc rfl) (by decide)
  case type =>
    intro ty' hty hs
    exact reported_of_trailer hi hr hq hp hs (endCause_of_csumBad (sum8_frameBody_type_ne p hty.symm) rfl) (by decide)
  case last =>
    intro e he hs
    exact reported_of_trailer hi hr hq hp hs (endCause_of_endBad rfl he) (by decide)

end Sys2Proof.FrameDecode
end

section
/-! PROOFS. Which variant an `SDEC` runs (R85), and the payload lengths it turns away (R86). -/

open Sys2Proof Sys2Proof.Machine Sys2Proof.Claims Sys2Proof.StepKeeps

namespace Sys2Proof.SampleDecode

/-- The host's `SDEC` call runs the instruction its payload decodes to. -/
theorem step_of_sdec {s : State} {P : List Byte} {cs : List HostCall} (ht : HostTurn s) (hs : s.hostCalls = .sdec P :: cs) :
    step s = exec (decodeSdec P) (s.setCalls cs) := by
  rw [step_of_hostTurn ht, fetchCall, hs, runFetched_sdec]

/-- Settles O48: `decodeSdec` is the selection R85 writes, and the host's call runs what it selects. -/
theorem subtypeSelectsVariant : Obligations.SubtypeSelectsVariant :=
  ⟨fun _ => rfl, fun _ _ _ ht hs => step_of_sdec ht hs⟩

theorem execSdecRaw_of_length_ne {P : List Byte} (h : P.length ≠ 91) (s : State) :
    exec (.sdecRaw P) s = .next (raise (.sampleLengthError P.length) s) := by
  simp [exec, execSdecRaw, h]

theorem execSdecQuat_of_length_ne {P : List Byte} (h : P.length ≠ 87) (s : State) :
    exec (.sdecQuat P) s = .next (raise (.sampleLengthError P.length) s) := by
  simp [exec, execSdecQuat, h]

/-- Settles O52: the length check of either variant raises `SampleLengthError`, which only adds a result. -/
theorem wrongSampleLengthIsAnError : Obligations.WrongSampleLengthIsAnError := fun P s =>
  ⟨fun h => by rw [execSdecRaw_of_length_ne h, raise_sampleLengthError],
    fun h => by rw [execSdecQuat_of_length_ne h, raise_sampleLengthError]⟩

end Sys2Proof.SampleDecode
end

section
/-! PROOFS. The fields of a sample as the rules' formulas over the payload bytes (R87 to R100), once for every way to scale a
raw value: the exact rationals and the binary64 rendering are two of them. -/

open Sys2Proof Sys2Proof.Machine Sys2Proof.Claims Sys2Proof.StepKeeps Sys2Proof.FieldsAndChecksum

namespace Sys2Proof.SampleDecode

/-- The intermediates hold the header (R87) and the 24 tail values from offset `base` on (R93). -/
structure HeaderAndTailRead (P : List Byte) (base : Nat) (r : SdecRegs) : Prop where
  deviceId : r.deviceId.toNat = u16 P 1
  clockMs  : r.clockMs.toNat = u32 P 3
  tail     : ∀ j : Fin 24, r.tail[j].toNat = u16 P (base + 2 * j.val)

theorem headerAndTailRead_unpackRaw {P : List Byte} (h : P.length = 91) : HeaderAndTailRead P 43 (unpackRaw P h) where
  deviceId := memRead16_toNat P 1 (by omega)
  clockMs := memRead32_toNat P 3 (by omega)
  tail j := by simpa [unpackRaw] using memRead16_toNat P (43 + 2 * j.val) (by omega)

theorem headerAndTailRead_unpackQuat {P : List Byte} (h : P.length = 87) : HeaderAndTailRead P 39 (unpackQuat P h) where
  deviceId := memRead16_toNat P 1 (by omega)
  clockMs := memRead32_toNat P 3 (by omega)
  tail j := by simpa [unpackQuat] using memRead16_toNat P (39 + 2 * j.val) (by omega)

/-- The header and tail fields of a sample (R87, R94 to R98, R100) in the scaling `N`. -/
def HeaderAndTailScaled {α : Type} (N : Numerics α) (P : List Byte) (base : Nat) (jo : JointOrder) (c : SampleCommon α) :
    Prop :=
  c.deviceId.toNat = u16 P 1 ∧ c.clock = N.milli (u32 P 3) ∧
    (∀ f : Fin 5,
      (jo = .dipOdd → c.pipJoints[f] = N.milli (u16 P (base + 2 * (2 * f.val))) ∧
        c.dipJoints[f] = N.milli (u16 P (base + 2 * (2 * f.val + 1)))) ∧
      (jo = .pipOdd → c.pipJoints[f] = N.milli (u16 P (base + 2 * (2 * f.val + 1))) ∧
        c.dipJoints[f] = N.milli (u16 P (base + 2 * (2 * f.val))))) ∧
    c.palmArch = N.milli (u16 P (base + 2 * 10)) ∧ c.thumbCrossOver = N.milli (u16 P (base + 2 * 12)) ∧
    (∀ f : Fin 5, c.pressures[f] = N.pressure (u16 P (base + 2 * (14 + f.val)))) ∧
    (∀ a : Fin 4, c.abductions[a] = N.milli (u16 P (base + 2 * (19 + a.val)))) ∧
    c.batteryCharge = N.milli (u16 P (base + 2 * 23))

theorem HeaderAndTailRead.tailMilli {α : Type} {P : List Byte} {base : Nat} {r : SdecRegs} (hr : HeaderAndTailRead P base r)
    (N : Numerics α) (j : Fin 24) : tailMilli N r.tail j = N.milli (u16 P (base + 2 * j.val)) := by
  rw [Machine.tailMilli, zext, hr.tail]

theorem getElem_joints {α : Type} (N : Numerics α) (T : Vector Half 24) (odd : Bool) (f : Fin 5) :
    (joints N T odd)[f] = tailMilli N T ⟨2 * f.val + odd.toNat, by cases odd <;> simp <;> omega⟩ := by
  simp [joints]

theorem HeaderAndTailRead.scaled {α : Type} {P : List Byte} {base : Nat} {r : SdecRegs} (hr : HeaderAndTailRead P base r)
    (N : Numerics α) (jo : JointOrder) : HeaderAndTailScaled N P base jo (sampleCommon N jo r) := by
  refine ⟨hr.deviceId, ?clock, fun f => ⟨?dipOdd, ?pipOdd⟩, hr.tailMilli N 10, hr.tailMilli N 12, fun f => ?pressure,
    fun a => ?abduction, hr.tailMilli N 23⟩
  case clock => simp [sampleCommon, zext, hr.clockMs]
  case dipOdd | pipOdd =>
    rintro rfl
    simp [sampleCommon, getElem_joints, hr.tailMilli, -Fin.getElem_fin]
  case pressure =>
    have h := hr.tail ⟨14 + f.val, by omega⟩
    simp_all [sampleCommon, zext]
  case abduction => simp [sampleCommon, hr.tailMilli]

theorem headerAndTailScaled_exact {P : List Byte} {base : Nat} {jo : JointOrder} {c : SampleCommon Rat} :
    HeaderAndTailScaled exactNumerics P base jo c ↔ HeaderAndTail P base jo c := Iff.rfl

theorem headerAndTailScaled_binary64 {P : List Byte} {base : Nat} {jo : JointOrder} {c : SampleCommon (BitVec 64)} :
    HeaderAndTailScaled binary64Numerics P base jo c ↔ HeaderAndTailRendered P base jo c := Iff.rfl

/-! ### The variant part -/

/-- The nine two-byte values from offset `o` on as an `IMUSample` in the scaling `N` (R89, R90, R91). -/
def ImuScaled {α : Type} (N : Numerics α) (P : List Byte) (o : Nat) (x : ImuSample α) : Prop :=
  ∀ k : Fin 3, x.angularVelocity[k] = N.angularVelocity (s16 P (o + 2 * k.val)) ∧
    x.acceleration[k] = N.acceleration (s16 P (o + 6 + 2 * k.val)) ∧
    x.magneticField[k] = N.magneticField (s16 P (o + 12 + 2 * k.val))

theorem imuSample_scaled {α : Type} (N : Numerics α) {P : List Byte} (h : P.length = 91) (base : Nat) (hb : base + 9 ≤ 18) :
    ImuScaled N P (7 + 2 * base) (imuSample N (Vector.ofFn fun i => memRead16 P (7 + 2 * i.val) (by omega)) base hb) := by
  intro k
  simp only [imuSample, Fin.getElem_fin, Vector.getElem_ofFn, sext16_memRead16]
  refine ⟨?_, ?_, ?_⟩ <;> congr 2 <;> omega

/-- The four four-byte values from offset `o` on as a quaternion in the scaling `N` (R92). -/
def quaternionScaled {α : Type} (N : Numerics α) (P : List Byte) (o : Nat) : Machine.Quaternion α :=
  { x := N.quaternion (s32 P o), y := N.quaternion (s32 P (o + 4)), z := N.quaternion (s32 P (o + 8)),
    w := N.quaternion (s32 P (o + 12)) }

theorem quaternion_eq_scaled {α : Type} (N : Numerics α) {P : List Byte} (h : P.length = 87) (base : Nat)
    (hb : base + 4 ≤ 8) : quaternion N (Vector.ofFn fun i => memRead32 P (7 + 4 * i.val) (by omega)) base hb =
    quaternionScaled N P (7 + 4 * base) := by
  simp only [quaternion, quaternionScaled, Vector.getElem_ofFn, sext32_memRead32]
  congr 3

/-! ### The sample -/

theorem buildSample_unpackRaw {α : Type} (N : Numerics α) (jo : JointOrder) {P : List Byte} (h : P.length = 91) :
    ∃ (c : SampleCommon α) (w x : ImuSample α), buildSample N jo (unpackRaw P h) = .raw c w x ∧
      HeaderAndTailScaled N P 43 jo c ∧ ImuScaled N P 7 w ∧ ImuScaled N P 25 x :=
  ⟨_, _, _, rfl, (headerAndTailRead_unpackRaw h).scaled N jo, imuSample_scaled N h 0 (by omega),
    imuSample_scaled N h 9 (by omega)⟩

theorem buildSample_unpackQuat {α : Type} (N : Numerics α) (jo : JointOrder) {P : List Byte} (h : P.length = 87) :
    ∃ c : SampleCommon α, buildSample N jo (unpackQuat P h) = .quat c (quaternionScaled N P 7) (quaternionScaled N P 23) ∧
      HeaderAndTailScaled N P 39 jo c := by
  refine ⟨_, ?_, (headerAndTailRead_unpackQuat h).scaled N jo⟩
  rw [← quaternion_eq_scaled N h 0 (by omega), ← quaternion_eq_scaled N h 4 (by omega)]
  rfl

/-- A sample that was built touches nothing but `SDEC`'s registers, its rendering and the host's results (R104). -/
theorem sdecFrame_setSample (r : SdecRegs) (s : State) : SdecFrame s (s.setSample r) :=
  ⟨⟨rfl, rfl, rfl, rfl, rfl, rfl, rfl, rfl, rfl, rfl, rfl, rfl, rfl⟩, rfl, rfl, rfl, rfl⟩

/-- Settles O49: the sample of the intermediates in exact rationals. -/
theorem rawSampleFields : Obligations.RawSampleFields := by
  intro P s hP
  obtain ⟨c, w, x, hsample, hcommon, hwrist, hhand⟩ := buildSample_unpackRaw exactNumerics s.cfg.jointOrder hP
  refine ⟨_, c, w, x, execSdecRaw_of_length hP s, ?_, ?_, sdecFrame_setSample _ s,
    headerAndTailScaled_exact.mp hcommon, fun k => ?_⟩
  · rw [State.setSample_sample, hsample]
  · rw [State.setSample_results, hsample]
  · obtain ⟨hwv, hwa, hwm⟩ := hwrist k
    exact ⟨hwv, hwa, hwm, hhand k⟩

/-- Settles O50: the sample of the intermediates in exact rationals. -/
theorem quaternionSampleFields : Obligations.QuaternionSampleFields := by
  intro P s hP
  obtain ⟨c, hsample, hcommon⟩ := buildSample_unpackQuat exactNumerics s.cfg.jointOrder hP
  refine ⟨_, c, quaternionScaled exactNumerics P 7, quaternionScaled exactNumerics P 23, execSdecQuat_of_length hP s, ?_, ?_,
    sdecFrame_setSample _ s, headerAndTailScaled_exact.mp hcommon, rfl, rfl⟩
  · rw [State.setSample_sample, hsample]
  · rw [State.setSample_results, hsample]

/-! ### The tail values no field uses (R99) -/

/-- Intermediates that agree except, perhaps, in `S_SUBTYPE`, `T[11]` and `T[13]`. -/
structure SameUsed (r r' : SdecRegs) : Prop where
  deviceId : r.deviceId = r'.deviceId
  clockMs  : r.clockMs = r'.clockMs
  body     : r.body = r'.body
  tail     : ∀ j : Fin 24, j ≠ 11 → j ≠ 13 → r.tail[j] = r'.tail[j]

theorem SameUsed.sampleCommon {α : Type} {r r' : SdecRegs} (h : SameUsed r r') (N : Numerics α) (jo : JointOrder) :
    sampleCommon N jo r = sampleCommon N jo r' := by
  have scaled (j : Fin 24) (h11 : j.val ≠ 11) (h13 : j.val ≠ 13) : tailMilli N r.tail j = tailMilli N r'.tail j := by
    rw [tailMilli, tailMilli, h.tail j (Fin.ne_of_val_ne h11) (Fin.ne_of_val_ne h13)]
  have interleave (odd : Bool) : joints N r.tail odd = joints N r'.tail odd := by
    refine congrArg Vector.ofFn (funext fun f => scaled _ ?_ ?_) <;> cases odd <;> simp <;> omega
  have pressure (f : Fin 5) : r.tail[14 + f.val] = r'.tail[14 + f.val] :=
    h.tail ⟨14 + f.val, by omega⟩ (Fin.ne_of_val_ne (by simp; omega)) (Fin.ne_of_val_ne (by simp; omega))
  have abduction (a : Fin 4) : tailMilli N r.tail ⟨19 + a.val, by omega⟩ = tailMilli N r'.tail ⟨19 + a.val, by omega⟩ :=
    scaled _ (by simp; omega) (by simp; omega)
  simp only [Machine.sampleCommon, h.deviceId, h.clockMs, interleave, pressure, abduction,
    scaled 10 (by decide) (by decide), scaled 12 (by decide) (by decide), scaled 23 (by decide) (by decide)]

theorem SameUsed.buildSample {α : Type} {r r' : SdecRegs} (h : SameUsed r r') (N : Numerics α) (jo : JointOrder) :
    buildSample N jo r = buildSample N jo r' := by
  rw [Machine.buildSample, Machine.buildSample, h.sampleCommon, h.body]

theorem SameUsed.setSample {r r' : SdecRegs} (h : SameUsed r r') (s : State) :
    (s.setSample r).sample = (s.setSample r').sample ∧ (s.setSample r).rendered = (s.setSample r').rendered := by
  simp only [State.setSample, h.buildSample, and_self]

theorem memRead16_congr {P P' : List Byte} {o : Nat} (h : o + 2 ≤ P.length) (h' : o + 2 ≤ P'.length)
    (heq : ∀ i < 2, P[o + i]? = P'[o + i]?) : memRead16 P o h = memRead16 P' o h' := by
  simp only [memRead16, List.getElem_eq_getD (0 : Byte), List.getD_eq_getElem?_getD, heq 1 (by decide),
    show P[o]? = P'[o]? from heq 0 (by decide)]

theorem memRead32_congr {P P' : List Byte} {o : Nat} (h : o + 4 ≤ P.length) (h' : o + 4 ≤ P'.length)
    (heq : ∀ i < 4, P[o + i]? = P'[o + i]?) : memRead32 P o h = memRead32 P' o h' := by
  simp only [memRead32, List.getElem_eq_getD (0 : Byte), List.getD_eq_getElem?_getD, heq 1 (by decide), heq 2 (by decide),
    heq 3 (by decide), show P[o]? = P'[o]? from heq 0 (by decide)]

/-- The payloads agree outside the bytes of `T[11]` and `T[13]` of a tail that begins at offset `base`. -/
def SameOutsideUnused (base : Nat) (P P' : List Byte) : Prop :=
  ∀ o, o ≠ base + 22 ∧ o ≠ base + 23 ∧ o ≠ base + 26 ∧ o ≠ base + 27 → P[o]? = P'[o]?

theorem SameOutsideUnused.memRead16_tail {base : Nat} {P P' : List Byte} (heq : SameOutsideUnused base P P')
    (h : base + 48 ≤ P.length) (h' : base + 48 ≤ P'.length) {j : Fin 24} (h11 : j ≠ 11) (h13 : j ≠ 13) :
    memRead16 P (base + 2 * j.val) (by omega) = memRead16 P' (base + 2 * j.val) (by omega) := by
  have hj : j.val ≠ 11 ∧ j.val ≠ 13 := ⟨Fin.val_ne_of_ne h11, Fin.val_ne_of_ne h13⟩
  exact memRead16_congr _ _ fun i hi => heq _ (by omega)

theorem sameUsed_unpackRaw {P P' : List Byte} (h : P.length = 91) (h' : P'.length = 91) (heq : SameOutsideUnused 43 P P') :
    SameUsed (unpackRaw P h) (unpackRaw P' h') where
  deviceId := memRead16_congr (by omega) (by omega) fun i hi => heq _ (by omega)
  clockMs := memRead32_congr (by omega) (by omega) fun i hi => heq _ (by omega)
  body := congrArg (fun f => SdecBody.raw (Vector.ofFn f)) (funext fun i =>
    memRead16_congr _ _ fun k hk => heq _ (by omega))
  tail j h11 h13 := by
    simpa [unpackRaw] using heq.memRead16_tail (by omega) (by omega) h11 h13

theorem sameUsed_unpackQuat {P P' : List Byte} (h : P.length = 87) (h' : P'.length = 87) (heq : SameOutsideUnused 39 P P') :
    SameUsed (unpackQuat P h) (unpackQuat P' h') where
  deviceId := memRead16_congr (by omega) (by omega) fun i hi => heq _ (by omega)
  clockMs := memRead32_congr (by omega) (by omega) fun i hi => heq _ (by omega)
  body := congrArg (fun f => SdecBody.quat (Vector.ofFn f)) (funext fun i =>
    memRead32_congr _ _ fun k hk => heq _ (by omega))
  tail j h11 h13 := by
    simpa [unpackQuat] using heq.memRead16_tail (by omega) (by omega) h11 h13

/-- Settles O53: the bytes left out are those of `T[11]` and `T[13]`, so the intermediates agree in all that a sample uses. -/
theorem unusedTailValuesAreIgnored : Obligations.UnusedTailValuesAreIgnored := by
  constructor
  · intro P P' s t t' hP hP' heq ht ht'
    rw [execSdecRaw_of_length hP] at ht
    rw [execSdecRaw_of_length hP'] at ht'
    cases ht
    cases ht'
    exact (sameUsed_unpackRaw hP hP' fun o ⟨h0, h1, h2, h3⟩ => heq o h0 h1 h2 h3).setSample s
  · intro P P' s t t' hP hP' heq ht ht'
    rw [execSdecQuat_of_length hP] at ht
    rw [execSdecQuat_of_length hP'] at ht'
    cases ht
    cases ht'
    exact (sameUsed_unpackQuat hP hP' fun o ⟨h0, h1, h2, h3⟩ => heq o h0 h1 h2 h3).setSample s

end Sys2Proof.SampleDecode
end

section
/-! PROOFS. What `roundBinary64` and `bitsBinary64` compute (R101). Both are read once as a signed integer, the mantissa, times
the unit in the last place of the argument; the mantissa is the nearest integer to the argument in that unit. What is said
of the rounding follows from that and from where the binary64 values lie. -/

open Sys2Proof Sys2Proof.Machine Sys2Proof.Claims

namespace Sys2Proof.Binary64

/-! ### Rounding to the nearest integer -/

/-- `m` is an integer nearest to `q`, and the even one at a tie. -/
def NearestEven (q : Rat) (m : Int) : Prop := |q - m| ≤ 1 / 2 ∧ (|q - m| = 1 / 2 → m % 2 = 0)

theorem NearestEven.neg {q : Rat} {m : Int} (h : NearestEven q m) : NearestEven (-q) (-m) := by
  have hdist : |-q - ((-m : Int) : Rat)| = |q - m| := by
    rw [Int.cast_neg, ← abs_neg]
    congr 1
    ring
  obtain ⟨hhalf, htie⟩ := h
  exact ⟨hdist ▸ hhalf, fun h => by have := htie (hdist ▸ h); omega⟩

/-- Another integer is at least half a unit away. -/
theorem NearestEven.half_le {q : Rat} {m k : Int} (h : NearestEven q m) (hk : k ≠ m) : 1 / 2 ≤ |q - k| := by
  have hone : (1 : Rat) ≤ |(k : Rat) - m| := by exact_mod_cast Int.one_le_abs (sub_ne_zero.mpr hk)
  have htri : |(k : Rat) - m| ≤ |q - k| + |q - m| := abs_sub_comm (k : Rat) q ▸ abs_sub_le (k : Rat) q m
  linarith [h.1]

theorem NearestEven.le_abs_sub {q : Rat} {m : Int} (h : NearestEven q m) (k : Int) : |q - m| ≤ |q - k| := by
  obtain rfl | hk := eq_or_ne k m
  · exact le_rfl
  · exact h.1.trans (h.half_le hk)

theorem NearestEven.even_of_tie {q : Rat} {m k : Int} (h : NearestEven q m) (hk : k ≠ m) (htie : |q - k| = |q - m|) :
    m % 2 = 0 :=
  h.2 (le_antisymm h.1 (htie ▸ h.half_le hk))

theorem NearestEven.eq_of_intCast {k m : Int} (h : NearestEven k m) : m = k := by
  have hzero : |(k : Rat) - m| ≤ |(k : Rat) - k| := h.le_abs_sub k
  rw [sub_self, abs_zero, abs_nonpos_iff, sub_eq_zero] at hzero
  exact_mod_cast hzero.symm

/-- Rounding does not move past an integer on the way to 0. -/
theorem NearestEven.abs_sub_le {q : Rat} {m n : Int} (h : NearestEven q m) (hn : (n : Rat) ≤ |q|) (hpos : 0 ≤ n) :
    |q - m| ≤ |q| - n := by
  have hpos' : (0 : Rat) ≤ n := by exact_mod_cast hpos
  obtain hq | hq := abs_cases q
  · have hnear := h.le_abs_sub n
    rw [abs_of_nonneg (a := q - n) (by linarith)] at hnear
    linarith
  · have hnear := h.le_abs_sub (-n)
    rw [Int.cast_neg, sub_neg_eq_add, abs_of_nonpos (a := q + n) (by linarith)] at hnear
    linarith

/-- The rounded absolute value stays on its side of an integer. -/
theorem NearestEven.le_abs {q : Rat} {m n : Int} (h : NearestEven q m) (hn : (n : Rat) ≤ |q|) : n ≤ |m| := by
  have htri : |q| ≤ |q - m| + |(m : Rat)| := by simpa using abs_add_le (q - m) (m : Rat)
  have hlt : ((n - 1 : Int) : Rat) < ((|m| : Int) : Rat) := by
    push_cast
    linarith [h.1]
  have := Int.cast_lt.mp hlt
  omega

theorem NearestEven.abs_le {q : Rat} {m n : Int} (h : NearestEven q m) (hn : |q| ≤ n) : |m| ≤ n := by
  have htri : |(m : Rat)| ≤ |q - m| + |q| := by simpa [abs_sub_comm] using abs_add_le ((m : Rat) - q) q
  have hlt : ((|m| : Int) : Rat) < ((n + 1 : Int) : Rat) := by
    push_cast
    linarith [h.1]
  have := Int.cast_lt.mp hlt
  omega

theorem nearestEven_divRoundEven (a : Nat) {d : Nat} (hd : 0 < d) : NearestEven ((a : Rat) / d) (divRoundEven a d) := by
  have hd' : (0 : Rat) < d := by exact_mod_cast hd
  have hsplit : (a : Rat) = (a / d : Nat) * d + (a % d : Nat) := by exact_mod_cast (Nat.div_add_mod' a d).symm
  have hrem : (a : Rat) / d - (a / d : Nat) = (a % d : Nat) / d := by
    rw [sub_eq_iff_eq_add, div_eq_iff hd'.ne', add_mul, div_mul_cancel₀ _ hd'.ne', hsplit, add_comm]
  have below : |(a : Rat) / d - ((a / d : Nat) : Int)| = (a % d : Nat) / d := by
    rw [Int.cast_natCast, hrem]
    exact abs_of_nonneg (by positivity)
  have above : |(a : Rat) / d - ((a / d + 1 : Nat) : Int)| = 1 - (a % d : Nat) / d := by
    have hlt : ((a % d : Nat) : Rat) / d < 1 := (div_lt_one hd').mpr (by exact_mod_cast Nat.mod_lt a hd)
    rw [Int.cast_natCast, Nat.cast_add_one, ← sub_sub, hrem, abs_sub_comm]
    exact abs_of_nonneg (by linarith)
  have less : ((a % d : Nat) : Rat) / d < 1 / 2 ↔ 2 * (a % d) < d := by
    rw [div_lt_div_iff₀ hd' two_pos, mul_comm, one_mul]
    exact_mod_cast Iff.rfl
  have more : (1 : Rat) / 2 < ((a % d : Nat) : Rat) / d ↔ d < 2 * (a % d) := by
    rw [div_lt_div_iff₀ two_pos hd', mul_comm _ (2 : Rat), one_mul]
    exact_mod_cast Iff.rfl
  simp only [divRoundEven, NearestEven, ← less, ← more]
  split_ifs with hless hmore heven
  · rw [below]
    exact ⟨hless.le, fun h => absurd h hless.ne⟩
  · rw [above]
    exact ⟨by linarith, fun h => by linarith⟩
  · rw [below]
    exact ⟨not_lt.mp hmore, fun _ => by omega⟩
  · rw [above]
    exact ⟨by linarith, fun _ => by omega⟩

/-! ### Exponent, unit in the last place, mantissa -/

/-- The binary exponent of a rational: `2 ^ exponent x ≤ |x| < 2 ^ (exponent x + 1)` for `x ≠ 0`. -/
def exponent (x : Rat) : Int := Int.log 2 |x|

/-- The unit in the last place of a 53-bit significand. -/
def ulp (x : Rat) : Rat := 2 ^ (exponent x - 52)

/-- The significand `roundBinary64` computes, with the sign of `x`. -/
def mantissa (x : Rat) : Int :=
  if x.num < 0 then -(significand x.num.natAbs x.den (exponent x)) else significand x.num.natAbs x.den (exponent x)

theorem ulp_pos (x : Rat) : 0 < ulp x := zpow_pos two_pos _

theorem ulp_mul (x : Rat) : ulp x * 2 ^ 52 = 2 ^ exponent x := by
  rw [ulp, ← zpow_natCast, ← zpow_add₀ two_ne_zero]
  congr 1
  omega

theorem le_exponent_iff {x : Rat} (hx : x ≠ 0) (e : Int) : e ≤ exponent x ↔ (2 : Rat) ^ e ≤ |x| :=
  (Int.zpow_le_iff_le_log one_lt_two (abs_pos.mpr hx)).symm

theorem exponent_lt_iff {x : Rat} (hx : x ≠ 0) (e : Int) : exponent x < e ↔ |x| < (2 : Rat) ^ e :=
  (Int.lt_zpow_iff_log_lt one_lt_two (abs_pos.mpr hx)).symm

theorem abs_eq_num_div_den (x : Rat) : |x| = (x.num.natAbs : Rat) / x.den := by
  rw [Rat.abs_def, Rat.divInt_eq_div, Int.cast_natCast, Int.cast_natCast]

/-- The test of `binExponent` compares the quotient with a power of two without leaving the naturals. -/
theorem zpow_le_div_iff (a : Nat) {d : Nat} (hd : 0 < d) (e : Int) :
    (2 : Rat) ^ e ≤ (a : Rat) / d ↔ if 0 ≤ e then d * 2 ^ e.toNat ≤ a else d ≤ a * 2 ^ (-e).toNat := by
  have hd' : (0 : Rat) < d := by exact_mod_cast hd
  rw [le_div_iff₀ hd']
  split_ifs with he
  · obtain ⟨n, rfl⟩ := Int.eq_ofNat_of_zero_le he
    rw [Int.toNat_natCast, zpow_natCast, mul_comm]
    exact_mod_cast Iff.rfl
  · obtain ⟨n, hn⟩ := Int.eq_ofNat_of_zero_le (show 0 ≤ -e by omega)
    have hpow : (0 : Rat) < 2 ^ n := by positivity
    rw [show e = -(n : Int) by omega, neg_neg, Int.toNat_natCast, zpow_neg, zpow_natCast, inv_mul_le_iff₀ hpow, mul_comm]
    exact_mod_cast Iff.rfl

theorem binExponent_eq_log {a d : Nat} (ha : 0 < a) (hd : 0 < d) : binExponent a d = Int.log 2 ((a : Rat) / d) := by
  have hd' : (0 : Rat) < d := by exact_mod_cast hd
  have hpos : (0 : Rat) < (a : Rat) / d := div_pos (by exact_mod_cast ha) hd'
  have hle (n : Nat) (hn : 0 < n) : (2 : Rat) ^ (Nat.log2 n : Int) ≤ n := by
    rw [zpow_natCast]
    exact_mod_cast Nat.log2_self_le hn.ne'
  have hlt (n : Nat) : (n : Rat) < 2 ^ ((Nat.log2 n : Int) + 1) := by
    exact_mod_cast Nat.lt_log2_self
  have upper : Int.log 2 ((a : Rat) / d) < (Nat.log2 a : Int) - Nat.log2 d + 1 := by
    rw [← Int.lt_zpow_iff_log_lt one_lt_two hpos, div_lt_iff₀ hd']
    calc (a : Rat) < 2 ^ ((Nat.log2 a : Int) + 1) := hlt a
      _ = 2 ^ ((Nat.log2 a : Int) - Nat.log2 d + 1) * 2 ^ (Nat.log2 d : Int) := by
        rw [← zpow_add₀ two_ne_zero]
        congr 1
        omega
      _ ≤ 2 ^ ((Nat.log2 a : Int) - Nat.log2 d + 1) * d := by gcongr; exact hle d hd
  have lower : (Nat.log2 a : Int) - Nat.log2 d - 1 ≤ Int.log 2 ((a : Rat) / d) := by
    rw [← Int.zpow_le_iff_le_log one_lt_two hpos, le_div_iff₀ hd']
    calc 2 ^ ((Nat.log2 a : Int) - Nat.log2 d - 1) * (d : Rat)
        ≤ 2 ^ ((Nat.log2 a : Int) - Nat.log2 d - 1) * 2 ^ ((Nat.log2 d : Int) + 1) := by gcongr; exact (hlt d).le
      _ = 2 ^ (Nat.log2 a : Int) := by
        rw [← zpow_add₀ two_ne_zero]
        congr 1
        omega
      _ ≤ a := hle a ha
  have test := (Int.zpow_le_iff_le_log one_lt_two hpos).symm.trans
    (zpow_le_div_iff a hd ((Nat.log2 a : Int) - Nat.log2 d))
  simp only [binExponent]
  split_ifs at test ⊢ <;> omega

theorem binExponent_eq_exponent {x : Rat} (hx : x ≠ 0) : binExponent x.num.natAbs x.den = exponent x := by
  rw [binExponent_eq_log (Int.natAbs_pos.mpr (Rat.num_ne_zero.mpr hx)) x.den_pos, exponent, abs_eq_num_div_den]

theorem cast_two_pow_toNat {n : Int} (hn : 0 ≤ n) : ((2 ^ n.toNat : Nat) : Rat) = 2 ^ n := by
  rw [Nat.cast_pow, Nat.cast_ofNat, ← zpow_natCast, Int.toNat_of_nonneg hn]

theorem cast_two_pow_toNat_sub {e b : Int} (he : e ≤ b) : ((2 ^ (b - e).toNat : Nat) : Rat) = (2 ^ (e - b))⁻¹ := by
  rw [cast_two_pow_toNat (by omega), ← zpow_neg, neg_sub]

theorem nearestEven_significand (a : Nat) {d : Nat} (hd : 0 < d) (e : Int) :
    NearestEven ((a : Rat) / d / 2 ^ (e - 52)) (significand a d e) := by
  unfold significand
  split_ifs with he
  · have h := nearestEven_divRoundEven (a * 2 ^ (52 - e).toNat) hd
    rwa [Nat.cast_mul, cast_two_pow_toNat_sub he, mul_div_right_comm, ← div_eq_mul_inv] at h
  · have h := nearestEven_divRoundEven a (d := d * 2 ^ (e - 52).toNat) (by positivity)
    rwa [Nat.cast_mul, cast_two_pow_toNat (by omega), ← div_div] at h

/-- The mantissa is the argument in units in the last place, rounded to the nearest integer. -/
theorem nearestEven_mantissa (x : Rat) : NearestEven (x / ulp x) (mantissa x) := by
  have h := nearestEven_significand x.num.natAbs x.den_pos (exponent x)
  rw [← abs_eq_num_div_den, ← ulp] at h
  unfold mantissa
  split_ifs with hneg
  · rw [abs_of_neg (Rat.num_neg.mp hneg), neg_div] at h
    exact neg_neg (x / ulp x) ▸ h.neg
  · rwa [abs_of_nonneg (Rat.num_nonneg.mp (not_lt.mp hneg))] at h

@[simp] theorem roundBinary64_zero : roundBinary64 0 = 0 := rfl

theorem roundBinary64_eq {x : Rat} (hx : x ≠ 0) : roundBinary64 x = mantissa x * ulp x := by
  have hscale (m : Nat) : (if exponent x ≤ 52 then (m : Rat) / ((2 ^ (52 - exponent x).toNat : Nat) : Rat)
      else (m : Rat) * ((2 ^ (exponent x - 52).toNat : Nat) : Rat)) = m * ulp x := by
    rw [ulp]
    split_ifs with he
    · rw [cast_two_pow_toNat_sub he, div_inv_eq_mul]
    · rw [cast_two_pow_toNat (by omega)]
  simp only [roundBinary64, Rat.num_ne_zero.mpr hx, if_false, binExponent_eq_exponent hx, hscale, mantissa]
  split_ifs <;> push_cast <;> ring

theorem bitsBinary64_eq {x : Rat} (hx : x ≠ 0) :
    bitsBinary64 x = BitVec.ofNat 64 ((if x < 0 then 2 ^ 63 else 0) + (exponent x + 1023).toNat * 2 ^ 52 +
      ((mantissa x).natAbs - 2 ^ 52)) := by
  have hm : (mantissa x).natAbs = significand x.num.natAbs x.den (exponent x) := by
    unfold mantissa
    split_ifs <;> simp
  simp only [bitsBinary64, Rat.num_ne_zero.mpr hx, if_false, binExponent_eq_exponent hx, hm, Rat.num_neg]

/-- The argument in units in the last place fills 53 bits. -/
theorem abs_div_ulp_bounds {x : Rat} (hx : x ≠ 0) : 2 ^ 52 ≤ |x / ulp x| ∧ |x / ulp x| < 2 ^ 53 := by
  have hle := (le_exponent_iff hx (exponent x)).mp le_rfl
  have hlt := (exponent_lt_iff hx (exponent x + 1)).mp (by omega)
  rw [zpow_add_one₀ two_ne_zero] at hlt
  rw [← ulp_mul] at hle hlt
  rw [abs_div, abs_of_pos (ulp_pos x), le_div_iff₀ (ulp_pos x), div_lt_iff₀ (ulp_pos x)]
  constructor <;> linarith

theorem abs_mantissa_bounds {x : Rat} (hx : x ≠ 0) : 2 ^ 52 ≤ |mantissa x| ∧ |mantissa x| ≤ 2 ^ 53 := by
  obtain ⟨hle, hlt⟩ := abs_div_ulp_bounds hx
  exact ⟨(nearestEven_mantissa x).le_abs (by exact_mod_cast hle),
    (nearestEven_mantissa x).abs_le (by exact_mod_cast hlt.le)⟩

/-! ### Where the binary64 values lie -/

/-- A binary64 value is a whole number of units `2 ^ E`, unless it is too small to have 53 bits there. -/
theorem isBinary64_multiple_or_small {y : Rat} (hy : IsBinary64 y) (E : Int) :
    (∃ k : Int, y = k * 2 ^ E) ∨ |y| < 2 ^ 52 * 2 ^ E := by
  obtain ⟨m, e, hm, -, -, rfl⟩ := hy
  by_cases he : E ≤ e
  · left
    obtain ⟨n, hn⟩ := Int.eq_ofNat_of_zero_le (sub_nonneg.mpr he)
    refine ⟨m * 2 ^ n, ?_⟩
    rw [show e = n + E by omega, zpow_add₀ two_ne_zero, zpow_natCast, ← mul_assoc]
    push_cast
    rfl
  · right
    have hm' : (|m| : Rat) < 2 ^ 53 := by exact_mod_cast hm
    have hpos : (0 : Rat) < 2 ^ e := by positivity
    calc |(m : Rat) * 2 ^ e| = |(m : Rat)| * 2 ^ e := by rw [abs_mul, abs_of_pos hpos]
      _ < 2 ^ 53 * 2 ^ e := by gcongr
      _ = 2 ^ 52 * 2 ^ (e + 1) := by rw [zpow_add_one₀ two_ne_zero]; ring
      _ ≤ 2 ^ 52 * 2 ^ E := by gcongr <;> [norm_num; omega]

/-- Every binary64 value is its own rounding, whatever its size: the rounding has no least exponent. -/
theorem roundBinary64_of_isBinary64 {x : Rat} (h : IsBinary64 x) : roundBinary64 x = x := by
  obtain rfl | hx := eq_or_ne x 0
  · rfl
  obtain ⟨k, hk⟩ | hsmall := isBinary64_multiple_or_small h (exponent x - 52)
  · have hq : x / ulp x = k := (div_eq_iff (ulp_pos x).ne').mpr hk
    have hnear : NearestEven (k : Rat) (mantissa x) := hq ▸ nearestEven_mantissa x
    rw [roundBinary64_eq hx, hnear.eq_of_intCast]
    exact hk.symm
  · have hle := (le_exponent_iff hx (exponent x)).mp le_rfl
    rw [← ulp_mul, mul_comm] at hle
    exact absurd hsmall (not_lt.mpr hle)

theorem isBinary64_dyadic {n : Int} {k : Nat} (hn : n.natAbs < 2 ^ 53) (hk : k ≤ 1000) :
    IsBinary64 ((n : Rat) / ((2 ^ k : Nat) : Rat)) := by
  refine ⟨n, -k, by rw [Int.abs_eq_natAbs]; exact_mod_cast hn, by omega, by omega, ?_⟩
  rw [zpow_neg, zpow_natCast, Nat.cast_pow, Nat.cast_ofNat, div_eq_mul_inv]

theorem roundBinary64_dyadic {n : Int} {k : Nat} (hn : n.natAbs < 2 ^ 53) (hk : k ≤ 1000) :
    roundBinary64 ((n : Rat) / ((2 ^ k : Nat) : Rat)) = (n : Rat) / ((2 ^ k : Nat) : Rat) :=
  roundBinary64_of_isBinary64 (isBinary64_dyadic hn hk)

/-! ### Correct rounding -/

theorem abs_sub_mul_ulp (x : Rat) (k : Int) : |x - k * ulp x| = |x / ulp x - k| * ulp x := by
  rw [← abs_of_pos (ulp_pos x), ← abs_mul, abs_of_pos (ulp_pos x), sub_mul, div_mul_cancel₀ _ (ulp_pos x).ne']

theorem abs_sub_roundBinary64_le_ulp {x : Rat} (hx : x ≠ 0) : |x - roundBinary64 x| ≤ ulp x / 2 := by
  rw [roundBinary64_eq hx, abs_sub_mul_ulp]
  exact (mul_le_mul_of_nonneg_right (nearestEven_mantissa x).1 (ulp_pos x).le).trans_eq (one_div_mul_eq_div _ _)

/-- A value too small for the unit in the last place of `x` lies beyond a power of two that is nearer to `x`. -/
theorem abs_sub_roundBinary64_lt_of_small {x y : Rat} (hx : x ≠ 0) (hy : |y| < 2 ^ 52 * ulp x) :
    |x - roundBinary64 x| < |x - y| := by
  have hle : |x / ulp x - mantissa x| ≤ |x / ulp x| - (2 ^ 52 : Int) :=
    (nearestEven_mantissa x).abs_sub_le (by exact_mod_cast (abs_div_ulp_bounds hx).1) (by norm_num)
  calc |x - roundBinary64 x| = |x / ulp x - mantissa x| * ulp x := by rw [roundBinary64_eq hx, abs_sub_mul_ulp]
    _ ≤ (|x / ulp x| - (2 ^ 52 : Int)) * ulp x := mul_le_mul_of_nonneg_right hle (ulp_pos x).le
    _ = |x| - 2 ^ 52 * ulp x := by
      rw [sub_mul, abs_div, abs_of_pos (ulp_pos x), div_mul_cancel₀ _ (ulp_pos x).ne']
      push_cast
      rfl
    _ < |x| - |y| := by linarith
    _ ≤ |x - y| := abs_sub_abs_le_abs_sub x y

theorem abs_sub_roundBinary64_le {x y : Rat} (hx : x ≠ 0) (hy : IsBinary64 y) : |x - roundBinary64 x| ≤ |x - y| := by
  obtain ⟨k, rfl⟩ | hsmall := isBinary64_multiple_or_small hy (exponent x - 52)
  · rw [roundBinary64_eq hx, ← ulp, abs_sub_mul_ulp, abs_sub_mul_ulp]
    exact mul_le_mul_of_nonneg_right ((nearestEven_mantissa x).le_abs_sub k) (ulp_pos x).le
  · exact (abs_sub_roundBinary64_lt_of_small hx hsmall).le

theorem mantissa_even_of_tie {x y : Rat} (hx : x ≠ 0) (hy : IsBinary64 y) (hne : y ≠ roundBinary64 x)
    (htie : |x - y| = |x - roundBinary64 x|) : mantissa x % 2 = 0 := by
  obtain ⟨k, rfl⟩ | hsmall := isBinary64_multiple_or_small hy (exponent x - 52)
  · rw [roundBinary64_eq hx, ← ulp] at hne htie
    rw [abs_sub_mul_ulp, abs_sub_mul_ulp, mul_left_inj' (ulp_pos x).ne'] at htie
    exact (nearestEven_mantissa x).even_of_tie (fun h => hne (by rw [h])) htie
  · exact absurd htie (abs_sub_roundBinary64_lt_of_small hx hsmall).ne'

/-- A normal form of the rounded value, in its own unit or in twice that unit, is all that correct rounding needs besides. -/
theorem correctlyRounded_of_eq {x : Rat} {m e : Int} (hx : x ≠ 0) (hm : 2 ^ 52 ≤ |m|) (hm' : |m| < 2 ^ 53)
    (he : exponent x - 52 ≤ e) (hmin : -1074 ≤ e) (hmax : e ≤ 971) (hr : roundBinary64 x = m * 2 ^ e)
    (heven : mantissa x % 2 = 0 → m % 2 = 0) : CorrectlyRounded x (roundBinary64 x) := by
  have hulp : ulp x ≤ 2 ^ e := zpow_le_zpow_right₀ one_le_two he
  exact .inr ⟨m, e, hm, hm', hmin, hmax, hr, by linarith [abs_sub_roundBinary64_le_ulp hx],
    fun y hy => abs_sub_roundBinary64_le hx hy, fun ⟨y, hy, hne, htie⟩ => heven (mantissa_even_of_tie hx hy hne htie)⟩

theorem greatest_lt : (2 ^ 53 - 1) * (2 : Rat) ^ (971 : Int) < 2 ^ (1024 : Int) := by
  rw [show (1024 : Int) = (53 : Nat) + 971 from rfl, zpow_add₀ two_ne_zero, zpow_natCast]
  exact mul_lt_mul_of_pos_right (sub_one_lt _) (by positivity)

/-- At the top exponent a value of the normal range has a mantissa of 53 bits: nothing rounds up past the greatest value. -/
theorem abs_mantissa_lt_of_exponent {x : Rat} (hmax : |x| ≤ (2 ^ 53 - 1) * (2 : Rat) ^ (971 : Int)) (he : exponent x = 1023) :
    |mantissa x| < 2 ^ 53 := by
  have hulp : ulp x = 2 ^ (971 : Int) := by rw [ulp, he]; rfl
  have hle : |mantissa x| ≤ 2 ^ 53 - 1 := (nearestEven_mantissa x).abs_le (by
    rw [abs_div, abs_of_pos (ulp_pos x), div_le_iff₀ (ulp_pos x), hulp, Int.cast_sub, Int.cast_pow, Int.cast_ofNat,
      Int.cast_one]
    exact hmax)
  omega

theorem correctlyRounded_roundBinary64 {x : Rat} (hmin : (2 : Rat) ^ (-1022 : Int) ≤ |x|)
    (hmax : |x| ≤ (2 ^ 53 - 1) * (2 : Rat) ^ (971 : Int)) : CorrectlyRounded x (roundBinary64 x) := by
  have hx : x ≠ 0 := abs_pos.mp (lt_of_lt_of_le (by positivity) hmin)
  have hlow : -1022 ≤ exponent x := (le_exponent_iff hx _).mpr hmin
  have hhigh : exponent x < 1024 := (exponent_lt_iff hx _).mpr (hmax.trans_lt greatest_lt)
  obtain ⟨hm, hm'⟩ := abs_mantissa_bounds hx
  obtain hlt | hcarry := lt_or_eq_of_le hm'
  · exact correctlyRounded_of_eq hx hm hlt le_rfl (by omega) (by omega) (roundBinary64_eq hx) id
  · have hne : exponent x ≠ 1023 := fun he => (abs_mantissa_lt_of_exponent hmax he).ne hcarry
    obtain ⟨k, hk⟩ : ∃ k, mantissa x = 2 * k := ⟨mantissa x / 2, by cases eq_or_eq_neg_of_abs_eq hcarry <;> omega⟩
    have hkabs : |k| = 2 ^ 52 := by
      rw [hk, abs_mul, abs_two] at hcarry
      omega
    refine correctlyRounded_of_eq (m := k) (e := exponent x - 51) hx hkabs.ge (by rw [hkabs]; norm_num) (by omega) (by omega)
      (by omega) ?_ fun _ => by cases eq_or_eq_neg_of_abs_eq hkabs <;> omega
    rw [roundBinary64_eq hx, hk, ulp, show exponent x - 51 = exponent x - 52 + 1 by omega, zpow_add_one₀ two_ne_zero,
      Int.cast_mul, Int.cast_ofNat]
    ring

/-- Settles O54: the first clause from the nearest mantissa, the other two because a binary64 value is a whole number of
units, so that its mantissa is exact. -/
theorem dyadicValuesRenderExactly : Obligations.DyadicValuesRenderExactly :=
  ⟨fun _ => correctlyRounded_roundBinary64, fun _ _ => roundBinary64_of_isBinary64, fun _ _ => roundBinary64_dyadic⟩

/-! ### The bit pattern -/

/-- Sign, biased exponent and fraction are read back from the number they make (IEEE 754 binary64). -/
theorem pattern_fields {s E f : Nat} (hE : E < 2048) (hf : f < 2 ^ 52) :
    (s * 2 ^ 63 + E * 2 ^ 52 + f) / 2 ^ 63 = s ∧ (s * 2 ^ 63 + E * 2 ^ 52 + f) / 2 ^ 52 % 2048 = E ∧
      (s * 2 ^ 63 + E * 2 ^ 52 + f) % 2 ^ 52 = f := by
  omega

theorem abs_le_of_isBinary64 {x : Rat} (h : IsBinary64 x) : |x| ≤ (2 ^ 53 - 1) * (2 : Rat) ^ (971 : Int) := by
  obtain ⟨m, e, hm, -, he, rfl⟩ := h
  have hm' : (|m| : Rat) ≤ 2 ^ 53 - 1 := by exact_mod_cast Int.le_sub_one_of_lt hm
  rw [abs_mul, abs_of_pos (a := (2 : Rat) ^ e) (by positivity)]
  exact mul_le_mul hm' (zpow_le_zpow_right₀ one_le_two he) (by positivity) (by norm_num)

theorem eq_mantissa_mul_ulp {x : Rat} (hx : x ≠ 0) (h : IsBinary64 x) : x = mantissa x * ulp x := by
  rw [← roundBinary64_eq hx, roundBinary64_of_isBinary64 h]

/-- The sign bit of a rational. -/
def signBit (x : Rat) : Nat := if x < 0 then 1 else 0

theorem eq_sign_mul_abs (x : Rat) : x = (if signBit x = 1 then -1 else 1) * |x| := by
  by_cases h : x < 0
  · simp [signBit, h, abs_of_neg h]
  · simp [signBit, h, abs_of_nonneg (not_lt.mp h)]

/-- The pattern of a normal binary64 value is made of its sign, its biased exponent and the fraction of its mantissa. -/
theorem exists_bitsBinary64_fields {x : Rat} (hmin : (2 : Rat) ^ (-1022 : Int) ≤ |x|) (h : IsBinary64 x) :
    ∃ E f : Nat, (bitsBinary64 x).toNat = signBit x * 2 ^ 63 + E * 2 ^ 52 + f ∧ E < 2048 ∧ f < 2 ^ 52 ∧
      (E : Int) = exponent x + 1023 ∧ |mantissa x| = 2 ^ 52 + (f : Int) := by
  have hx : x ≠ 0 := abs_pos.mp (lt_of_lt_of_le (by positivity) hmin)
  have hlow : -1022 ≤ exponent x := (le_exponent_iff hx _).mpr hmin
  have hhigh : exponent x < 1024 := (exponent_lt_iff hx _).mpr ((abs_le_of_isBinary64 h).trans_lt greatest_lt)
  have hm : 2 ^ 52 ≤ |mantissa x| := (abs_mantissa_bounds hx).1
  have hm' : |mantissa x| < 2 ^ 53 := by
    have hlt := (abs_div_ulp_bounds hx).2
    rw [(div_eq_iff (ulp_pos x).ne').mpr (eq_mantissa_mul_ulp hx h)] at hlt
    exact_mod_cast hlt
  have hsign : (if x < 0 then 2 ^ 63 else 0) = signBit x * 2 ^ 63 ∧ signBit x < 2 := by
    unfold signBit
    split_ifs <;> simp
  rw [Int.abs_eq_natAbs] at hm hm' ⊢
  refine ⟨(exponent x + 1023).toNat, (mantissa x).natAbs - 2 ^ 52, ?_, by omega, by omega, by omega, by omega⟩
  rw [bitsBinary64_eq hx, hsign.1, BitVec.toNat_ofNat, Nat.mod_eq_of_lt (by omega)]

/-- What the pattern of a normal binary64 value means is that value. -/
theorem eq_value_of_bitsBinary64 {x : Rat} (hmin : (2 : Rat) ^ (-1022 : Int) ≤ |x|) (h : IsBinary64 x) {b : Nat}
    (hb : (bitsBinary64 x).toNat = b) :
    x = (if b / 2 ^ 63 = 1 then -1 else 1) * (2 ^ 52 + ((b % 2 ^ 52 : Nat) : Rat)) *
      (2 : Rat) ^ (((b / 2 ^ 52 % 2048 : Nat) : Int) - 1075) := by
  have hx : x ≠ 0 := abs_pos.mp (lt_of_lt_of_le (by positivity) hmin)
  obtain ⟨E, f, hbits, hE, hf, hexp, hm⟩ := exists_bitsBinary64_fields hmin h
  obtain ⟨hsign, hbiased, hfrac⟩ := pattern_fields (s := signBit x) hE hf
  have habs : |x| = (2 ^ 52 + (f : Rat)) * 2 ^ ((E : Int) - 1075) := by
    have hm' : |(mantissa x : Rat)| = 2 ^ 52 + (f : Rat) := by exact_mod_cast congrArg (Int.cast (R := Rat)) hm
    rw [eq_mantissa_mul_ulp hx h, abs_mul, abs_of_pos (ulp_pos x), hm', ulp, hexp]
    congr 2
    omega
  rw [← hb, hbits, hsign, hbiased, hfrac, mul_assoc, ← habs]
  exact eq_sign_mul_abs x

theorem normal_dyadic {n : Int} {k : Nat} (hn : n ≠ 0) (hk : k ≤ 1000) :
    (2 : Rat) ^ (-1022 : Int) ≤ |(n : Rat) / ((2 ^ k : Nat) : Rat)| := by
  have hone : (1 : Rat) ≤ |(n : Rat)| := by exact_mod_cast Int.one_le_abs hn
  rw [abs_div, Nat.cast_pow, Nat.cast_ofNat, abs_of_pos (a := (2 : Rat) ^ k) (by positivity), le_div_iff₀ (by positivity)]
  calc (2 : Rat) ^ (-1022 : Int) * 2 ^ k = 2 ^ (-1022 + (k : Int)) := by rw [zpow_add₀ two_ne_zero, zpow_natCast]
    _ ≤ 2 ^ (0 : Int) := zpow_le_zpow_right₀ one_le_two (by omega)
    _ ≤ |(n : Rat)| := by rwa [zpow_zero]

/-- Settles O55: a dyadic value of at most 53 bits is a normal binary64 value. -/
theorem binaryPatternsMeanTheirValue : Obligations.BinaryPatternsMeanTheirValue := fun _ _ hn hsize hk =>
  ⟨_, rfl, eq_value_of_bitsBinary64 (normal_dyadic hn hk) (isBinary64_dyadic hsize hk) rfl⟩

end Sys2Proof.Binary64
end

section
/-! PROOFS. The binary64 rendering of a sample (R101): which roundings a field of each kind gets, and that each of them is
correct for every raw value the field can hold. -/

open Sys2Proof Sys2Proof.Machine Sys2Proof.Claims Sys2Proof.StepKeeps Sys2Proof.FieldsAndChecksum Sys2Proof.Binary64

namespace Sys2Proof.SampleDecode

/-! ### What `NUM` renders -/

theorem setSample_rendered_exact {s : State} (h : s.cfg.num = .exact) (r : SdecRegs) : (s.setSample r).rendered = none := by
  simp only [State.setSample, h]

theorem setSample_rendered_binary64 {s : State} (h : s.cfg.num = .binary64) (r : SdecRegs) :
    (s.setSample r).rendered = some (buildSample binary64Numerics s.cfg.jointOrder r) := by
  simp only [State.setSample, h]

/-! ### The fields of R89 to R92 are rendered without a rounding -/

theorem roundBinary64_intCast {n : Int} (hn : n.natAbs < 2 ^ 53) : roundBinary64 (n : Rat) = n := by
  simpa using roundBinary64_dyadic (k := 0) hn (by decide)

/-- A small product and its quotient by `2^15` are binary64 values, so neither operation rounds. -/
theorem roundBinary64_mul_div {raw c : Int} (h : (raw * c).natAbs < 2 ^ 53) :
    roundBinary64 (roundBinary64 ((raw : Rat) * c) / 32768) = (raw : Rat) * c / 32768 := by
  rw [← Int.cast_mul, roundBinary64_intCast h]
  simpa using roundBinary64_dyadic (k := 15) h (by decide)

theorem u16_lt (P : List Byte) (o : Nat) : u16 P o < 65536 := by
  have h0 := (P.getD o 0).isLt
  have h1 := (P.getD (o + 1) 0).isLt
  unfold u16
  omega

theorem u32_lt (P : List Byte) (o : Nat) : u32 P o < 4294967296 := by
  have h0 := (P.getD o 0).isLt
  have h1 := (P.getD (o + 1) 0).isLt
  have h2 := (P.getD (o + 2) 0).isLt
  have h3 := (P.getD (o + 3) 0).isLt
  unfold u32
  omega

theorem natAbs_s16_le (P : List Byte) (o : Nat) : (s16 P o).natAbs ≤ 32768 := by
  have := u16_lt P o
  unfold s16
  split <;> omega

theorem natAbs_s32_le (P : List Byte) (o : Nat) : (s32 P o).natAbs ≤ 2147483648 := by
  have := u32_lt P o
  unfold s32
  split <;> omega

theorem binary64_angularVelocity {raw : Int} (h : raw.natAbs ≤ 32768) :
    binary64Numerics.angularVelocity raw = bitsBinary64 ((raw : Rat) * 10 / 32768) :=
  congrArg bitsBinary64 (roundBinary64_mul_div (c := 10) (by omega))

theorem binary64_acceleration {raw : Int} (h : raw.natAbs ≤ 32768) :
    binary64Numerics.acceleration raw = bitsBinary64 ((raw : Rat) * 4 / 32768) :=
  congrArg bitsBinary64 (roundBinary64_mul_div (c := 4) (by omega))

theorem binary64_quaternion {raw : Int} (h : raw.natAbs ≤ 2147483648) :
    binary64Numerics.quaternion raw = bitsBinary64 ((raw : Rat) / 65536) :=
  congrArg bitsBinary64 (by simpa using roundBinary64_dyadic (n := raw) (k := 16) (by omega) (by decide))

/-- The rendering of an `IMUSample` has the exact values' patterns. -/
theorem ImuScaled.binary64 {P : List Byte} {o : Nat} {x : ImuSample (BitVec 64)} (h : ImuScaled binary64Numerics P o x)
    (k : Fin 3) :
    x.angularVelocity[k] = bitsBinary64 ((s16 P (o + 2 * k.val) : Rat) * 10 / 32768) ∧
      x.acceleration[k] = bitsBinary64 ((s16 P (o + 6 + 2 * k.val) : Rat) * 4 / 32768) ∧
      x.magneticField[k] = bitsBinary64 (s16 P (o + 12 + 2 * k.val) : Rat) := by
  obtain ⟨hv, ha, hm⟩ := h k
  exact ⟨hv.trans (binary64_angularVelocity (natAbs_s16_le _ _)), ha.trans (binary64_acceleration (natAbs_s16_le _ _)), hm⟩

theorem quaternionScaled_binary64 (P : List Byte) (o : Nat) : quaternionScaled binary64Numerics P o =
    { x := bitsBinary64 ((s32 P o : Rat) / 65536), y := bitsBinary64 ((s32 P (o + 4) : Rat) / 65536),
      z := bitsBinary64 ((s32 P (o + 8) : Rat) / 65536), w := bitsBinary64 ((s32 P (o + 12) : Rat) / 65536) } := by
  simp only [quaternionScaled, binary64_quaternion (natAbs_s32_le P _)]

/-! ### The roundings of the other fields are correct -/

/-- The values a sample's fields take are far inside binary64's normal range. -/
theorem correctlyRounded_of_moderate {x : Rat} (hmin : 1 / 2 ^ 20 ≤ |x|) (hmax : |x| ≤ 2 ^ 32) :
    CorrectlyRounded x (roundBinary64 x) := by
  refine correctlyRounded_roundBinary64 (le_trans ?_ hmin) (hmax.trans ?_)
  · calc (2 : Rat) ^ (-1022 : Int) ≤ 2 ^ (-20 : Int) := zpow_le_zpow_right₀ one_le_two (by decide)
      _ = 1 / 2 ^ 20 := by norm_num
  · calc (2 : Rat) ^ 32 ≤ (2 ^ 53 - 1) * 1 := by norm_num
      _ ≤ (2 ^ 53 - 1) * 2 ^ (971 : Int) := mul_le_mul_of_nonneg_left (one_le_zpow₀ one_le_two (by decide)) (by norm_num)

theorem correctlyRounded_zero : CorrectlyRounded 0 (roundBinary64 0) := .inl ⟨rfl, rfl⟩

theorem correctlyRounded_div {raw d : Nat} (hraw : raw < 2 ^ 32) (hd : 0 < d) (hd' : d ≤ 2 ^ 20) :
    CorrectlyRounded ((raw : Rat) / d) (roundBinary64 ((raw : Rat) / d)) := by
  obtain rfl | hpos := Nat.eq_zero_or_pos raw
  · simpa using correctlyRounded_zero
  have hraw1 : (1 : Rat) ≤ raw := by exact_mod_cast hpos
  have hraw2 : (raw : Rat) ≤ 2 ^ 32 := by exact_mod_cast hraw.le
  have hd1 : (1 : Rat) ≤ d := by exact_mod_cast hd
  have hd2 : (d : Rat) ≤ 2 ^ 20 := by exact_mod_cast hd'
  have habs : |(raw : Rat) / d| = raw / d := abs_of_nonneg (by positivity)
  apply correctlyRounded_of_moderate <;> rw [habs]
  · gcongr
  · exact (div_le_self (by positivity) hd1).trans hraw2

/-- The relative error of a rounding is at most `2^-53`. -/
theorem abs_sub_roundBinary64_le_relative (x : Rat) : |x - roundBinary64 x| ≤ |x| / 2 ^ 53 := by
  obtain rfl | hx := eq_or_ne x 0
  · simp
  have hunit : 2 ^ 52 * ulp x ≤ |x| := by
    have h := (abs_div_ulp_bounds hx).1
    rwa [abs_div, abs_of_pos (ulp_pos x), le_div_iff₀ (ulp_pos x)] at h
  have := abs_sub_roundBinary64_le_ulp hx
  rw [le_div_iff₀ (by positivity)]
  linarith

/-- The second rounding of a pressure: the first one leaves the difference from 1 either 0 or well away from 0. -/
theorem correctlyRounded_pressure {raw : Nat} (hraw : raw < 2 ^ 16) :
    CorrectlyRounded (1 - roundBinary64 ((raw : Rat) / 999)) (roundBinary64 (1 - roundBinary64 ((raw : Rat) / 999))) := by
  obtain rfl | hne := eq_or_ne raw 999
  · have hone : roundBinary64 (((999 : Nat) : Rat) / 999) = 1 := by
      rw [Nat.cast_ofNat, div_self (by norm_num)]
      exact_mod_cast roundBinary64_intCast (n := 1) (by decide)
    rw [hone, sub_self]
    exact correctlyRounded_zero
  have hx : |(raw : Rat) / 999| ≤ 2 ^ 16 := by
    have : (raw : Rat) ≤ 2 ^ 16 := by exact_mod_cast hraw.le
    rw [abs_of_nonneg (by positivity)]
    linarith [div_le_self (show (0 : Rat) ≤ raw by positivity) (show (1 : Rat) ≤ 999 by norm_num)]
  have herr : |(raw : Rat) / 999 - roundBinary64 ((raw : Rat) / 999)| ≤ 1 / 2 ^ 37 :=
    (abs_sub_roundBinary64_le_relative _).trans (by linarith)
  have haway : 1 / 999 ≤ |1 - (raw : Rat) / 999| := by
    have hdist : (1 : Rat) ≤ |999 - (raw : Rat)| := by
      exact_mod_cast Int.one_le_abs (show (999 : Int) - raw ≠ 0 by omega)
    rw [one_sub_div (by norm_num), abs_div, abs_of_pos (show (0 : Rat) < 999 by norm_num)]
    gcongr
  apply correctlyRounded_of_moderate
  · have htri := abs_sub_le 1 (roundBinary64 ((raw : Rat) / 999)) ((raw : Rat) / 999)
    rw [abs_sub_comm (roundBinary64 _)] at htri
    linarith
  · rw [abs_le] at hx herr ⊢
    constructor <;> linarith

/-! ### The rendering -/

/-- Settles O56: the two variants as samples in the binary64 scaling, then the roundings for every raw value. -/
theorem renderingFollowsNum : Obligations.RenderingFollowsNum := by
  refine ⟨?raw, ?quat, ?milli, ?pressure⟩
  case raw =>
    intro P s hP
    refine ⟨_, execSdecRaw_of_length hP s, fun hnum => setSample_rendered_exact hnum _, fun hnum => ?_⟩
    obtain ⟨c, w, x, hsample, hcommon, hwrist, hhand⟩ := buildSample_unpackRaw binary64Numerics s.cfg.jointOrder hP
    refine ⟨c, w, x, by rw [setSample_rendered_binary64 hnum, hsample], headerAndTailScaled_binary64.mp hcommon,
      fun k => ?_⟩
    obtain ⟨hwv, hwa, hwm⟩ := hwrist.binary64 k
    exact ⟨hwv, hwa, hwm, hhand.binary64 k⟩
  case quat =>
    intro P s hP
    refine ⟨_, execSdecQuat_of_length hP s, fun hnum => setSample_rendered_exact hnum _, fun hnum => ?_⟩
    obtain ⟨c, hsample, hcommon⟩ := buildSample_unpackQuat binary64Numerics s.cfg.jointOrder hP
    exact ⟨c, _, _, by rw [setSample_rendered_binary64 hnum, hsample], headerAndTailScaled_binary64.mp hcommon,
      quaternionScaled_binary64 P 7, quaternionScaled_binary64 P 23⟩
  case milli => exact fun raw hraw => correctlyRounded_div (d := 1000) hraw (by decide) (by decide)
  case pressure =>
    exact fun raw hraw => ⟨correctlyRounded_div (d := 999) (by omega) (by decide) (by decide),
      correctlyRounded_pressure hraw⟩

/-- Settles O57: the first rounding is exact at raw 0 and 999; at raw 333 it gives the 53-bit value next to 1/3, and the
difference from 1 is then a tie between two 53-bit values. -/
theorem pressureRenderingEndpoints : Obligations.PressureRenderingEndpoints := by
  have zero : roundBinary64 (((0 : Int) : Rat) / 999) = 0 := by decide +kernel
  have whole : roundBinary64 (((999 : Int) : Rat) / 999) = 1 := by decide +kernel
  have third : roundBinary64 (((333 : Int) : Rat) / 999) = 6004799503160661 / 2 ^ 54 := by decide +kernel
  have tie : roundBinary64 (1 - 6004799503160661 / 2 ^ 54) = 6004799503160662 / 2 ^ 53 := by decide +kernel
  simp only [Obligations.PressureRenderingEndpoints, binary64Numerics, zero, whole, third, tie]
  decide +kernel

end Sys2Proof.SampleDecode
end

section
/-! PROOFS. A response the host awaits (R109 to R123). That it is delivered is one lemma about any response row: its frame is
received up to the end byte, and the end byte delivers. What differs from row to row is what the host makes of the payload,
an equation of `Session.onResponse` for each. -/

open Sys2Proof Sys2Proof.Machine Sys2Proof.Claims Sys2Proof.StepKeeps Sys2Proof.Encoding

namespace Sys2Proof.FrameDecode

/-! ### The host's record of a response -/

theorem onResponse_infoPayload (d r : Byte) (v : Half) (a n g : Long) (h r' : Byte) (ss : Session) :
    ss.onResponse tyInfo (infoPayload d r v a n g h r') = { ss with identity := { ss.identity with
      deviceType := some d, deviceId := some v, address := some a, netmask := some n, gateway := some g,
      dhcp := some h } } := by
  rw [Session.onResponse, decodeRx_info]

theorem onResponse_setid (v : Half) (ss : Session) :
    ss.onResponse tySetid (bytes16 v) = { ss with identity := { ss.identity with deviceId := some v } } := by
  rw [Session.onResponse, decodeRx_setid]

theorem onResponse_label (l : Vector Byte 16) (ss : Session) :
    ss.onResponse tyLabel l.toList = { ss with identity := { ss.identity with label := some l } } := by
  rw [Session.onResponse, decodeRx_label l.length_toList]
  rfl

theorem onResponse_fwver (a b c : Byte) (ss : Session) :
    ss.onResponse tyFwver [a, b, c] = { ss with identity := { ss.identity with firmware := some (a, b, c) } } := rfl

theorem onResponse_calib (st : Byte) (ss : Session) :
    ss.onResponse tyCalib [st] = { ss with calib := ss.calib.onStage st } := rfl

/-- The host stores nothing of a sample frame, whichever row it is of, or none (a payload of 87 bytes that begins with
`0x03` is a row of neither variant). -/
theorem onResponse_sample (p : List Byte) (ss : Session) : ss.onResponse tySample p = ss := by
  rw [Session.onResponse, decodeRx, if_pos rfl]
  split_ifs <;> rfl

/-- Only a calibration stage is judged (R135): a response of another type gives the host no error. -/
theorem responseErrors_of_type_ne {ty : Byte} (hty : ty ≠ tyCalib) (p : List Byte) (ss : Session) :
    ss.responseErrors ty p = [] := by
  have hstage (st : Byte) : decodeRx ty p ≠ .ok (.calibStage st) := fun hdec => by
    obtain ⟨hencode, -⟩ := (decodeRx_encodes ty p).of_eq hdec
    simp only [encode, Packet.frame.injEq, mkFrame_eq_cons, List.cons.injEq] at hencode
    obtain ⟨-, -, htype, -⟩ := hencode
    exact hty htype.symm
  unfold Session.responseErrors
  split
  next st _ hdec _ => exact absurd hdec (hstage st)
  next => rfl

/-! ### The calibration loop (R123, R135) -/

theorem responseErrors_calib_running {ss : Session} {ps : List Byte} (h : ss.calib = .running ps) (st : Byte) :
    ss.responseErrors tyCalib [st] = if st = 255 then [.error .deviceError] else [] := by
  have hdec : decodeRx tyCalib [st] = .ok (.calibStage st) := rfl
  simp only [Session.responseErrors, hdec, h]

theorem responseErrors_calib_not_running {ss : Session} (h : ∀ ps, ss.calib ≠ .running ps) (st : Byte) :
    ss.responseErrors tyCalib [st] = [] := by
  unfold Session.responseErrors
  split
  next hrun => exact absurd hrun (h _)
  next => rfl

theorem onStage_running (st : Byte) (ps : List Byte) : (Calib.running ps).onStage st =
    if st = 100 then .succeeded ps else if st = 255 then .failed ps else .running (ps ++ [st]) := rfl

theorem onStage_not_running {c : Calib} (h : ∀ ps, c ≠ .running ps) (st : Byte) : c.onStage st = c := by
  cases c with
  | running ps => exact absurd rfl (h ps)
  | _ => rfl

/-! ### Delivery -/

/-- A frame of the awaited type is received up to its end byte, which delivers it (R73, R81). -/
theorem receive_mkFrame_of_awaiting {s : State} {ty : Byte} {p : List Byte} (h : Awaiting s ty) (hp : p.length ≤ 253) :
    receive (mkFrame ty p) s = .next (deliver ty p (atEnd ty p (sum8 (frameBody ty p)) s)) := by
  obtain ⟨hi, -, hq, rfl⟩ := h
  rw [mkFrame_eq_concat, receive_append (receive_untilEnd hq _ _ hp) rfl, receive_singleton]
  exact rxStep_atEnd_of_accept hi.bufCanonical hp

/-- An awaited response of any row is delivered, and the host makes of its payload what the catalogue says. -/
theorem exists_delivered {s : State} {i : Instr} {ty : Byte} {p : List Byte} (h : Awaiting s ty) (hp : p.length ≤ 253)
    (hencode : encode i = .frame .rx (mkFrame ty p)) :
    ∃ t, exec i s = .next t ∧ Delivered s t ty p ∧
      t.results = s.results ++ [.payload p] ++ s.session.responseErrors ty p ∧
      t.session = s.session.onResponse ty p := by
  have hexec := (exec_of_encode_rx hencode s).trans (receive_mkFrame_of_awaiting h hp)
  obtain ⟨hi, hr, -, -⟩ := h
  rw [deliver_eq] at hexec
  exact ⟨_, hexec, ⟨rfl, rfl, rfl, rfl, sameOutsideRx_atEnd ty p (sum8 (frameBody ty p)) s,
    frameHeld_atEnd ty (sum8 (frameBody ty p)) hi.bufCanonical hp, rfl⟩, if_pos hr.2, if_pos hr.2⟩

/-- The same for a row that is no calibration stage, with the record the host has afterwards. -/
theorem exists_delivered_of_type_ne {s : State} {i : Instr} {ty : Byte} {p : List Byte} {ss : Session} (h : Awaiting s ty)
    (hp : p.length ≤ 253) (hencode : encode i = .frame .rx (mkFrame ty p)) (hty : ty ≠ tyCalib)
    (hss : s.session.onResponse ty p = ss) :
    ∃ t, exec i s = .next t ∧ Delivered s t ty p ∧ t.results = s.results ++ [.payload p] ∧ t.session = ss := by
  obtain ⟨t, hexec, hdelivered, hresults, hsession⟩ := exists_delivered h hp hencode
  rw [responseErrors_of_type_ne hty, List.append_nil] at hresults
  exact ⟨t, hexec, hdelivered, hresults, hsession.trans hss⟩

/-! ### The response rows -/

/-- Settles O38: the payload is the layout of R113, of which the host reads back six fields. -/
theorem infoResponseIsStored : Obligations.InfoResponseIsStored := fun _ d r v a n g h r' hs =>
  exists_delivered_of_type_ne hs ((infoPayload_length d r v a n g h r').trans_le (by decide)) rfl (by decide)
    (onResponse_infoPayload d r v a n g h r' _)

/-- Settles O39: the payload is the two bytes of the id. -/
theorem setidResponseIsCached : Obligations.SetidResponseIsCached := fun _ v hs =>
  exists_delivered_of_type_ne hs (show 2 ≤ 253 by decide) rfl (by decide) (onResponse_setid v _)

/-- Settles O40: the payload is the field itself. -/
theorem labelResponseIsCached : Obligations.LabelResponseIsCached := fun _ l hs =>
  exists_delivered_of_type_ne hs (l.length_toList.trans_le (by decide)) rfl (by decide) (onResponse_label l _)

/-- Settles O41: the payload is the three bytes. -/
theorem firmwareResponseIsStored : Obligations.FirmwareResponseIsStored := fun _ a b c hs =>
  exists_delivered_of_type_ne hs (show 3 ≤ 253 by decide) rfl (by decide) (onResponse_fwver a b c _)

/-- Settles O42: the delivered stage, then the branches of the host's loop. -/
theorem calibrationStageIsJudged : Obligations.CalibrationStageIsJudged := by
  intro s st hs
  obtain ⟨t, hexec, hdelivered, hresults, hsession⟩ :=
    exists_delivered (i := .calibStage st) (ty := tyCalib) (p := [st]) hs (show 1 ≤ 253 by decide) rfl
  rw [onResponse_calib] at hsession
  refine ⟨t, hexec, hdelivered, ?success, ?deviceError, ?progress, ?notRunning⟩
  case success =>
    rintro ps hrun rfl
    simp [hresults, hsession, responseErrors_calib_running hrun, hrun, onStage_running]
  case deviceError =>
    rintro ps hrun rfl
    simp [hresults, hsession, responseErrors_calib_running hrun, hrun, onStage_running]
  case progress =>
    intro ps hrun h100 h255
    rw [responseErrors_calib_running hrun, if_neg h255, List.append_nil] at hresults
    rw [hrun, onStage_running, if_neg h100, if_neg h255] at hsession
    exact ⟨hresults, hsession⟩
  case notRunning =>
    intro hrun
    simp [hresults, hsession, responseErrors_calib_not_running hrun, onStage_not_running hrun]

/-- Settles O43: the payloads are the layouts of R34 and R35. -/
theorem sampleFramesAreDelivered : Obligations.SampleFramesAreDelivered := fun _ v c T hs =>
  ⟨fun I => exists_delivered_of_type_ne hs ((rawPayload_length v c I T).trans_le (by decide)) rfl (by decide)
      (onResponse_sample _ _),
    fun st Q => exists_delivered_of_type_ne hs ((quatPayload_length st v c Q T).trans_le (by decide)) rfl (by decide)
      (onResponse_sample _ _)⟩

end Sys2Proof.FrameDecode
end

section
/-! PROOFS. The requests whose write completes (R106 to R125): the frame and what the host notes, said once for every request
row, and the entries of the host's surface that send one request (R57). -/

open Sys2Proof Sys2Proof.Machine Sys2Proof.Claims Sys2Proof.StepKeeps Sys2Proof.Encoding Sys2Proof.FrameDecode

namespace Sys2Proof.Transmitting

/-! ### One request -/

/-- `s` after the write of the frame `F` completed, with the host's record `ss`. -/
def afterWrite (F : List Byte) (ss : Session) (s : State) : State :=
  { s with
    txStream := s.txStream ++ F
    writeTimeouts := s.writeTimeouts.tail
    results := s.results ++ [.frame F]
    session := ss }

/-- A request whose write completes appends and returns the frame it encodes to, and is noted in the host's record. -/
theorem exec_of_encode_tx_of_completes {i : Instr} {F : List Byte} {s : State} (hw : WriteCompletes s)
    (h : encode i = .frame .tx F) : exec i s = .next (afterWrite F (noteOfRequest i s.session) s) := by
  obtain ⟨ty, p, hp, rfl, hexec⟩ := exec_of_encode_tx h
  rw [hexec, transmit_of_le _ hp hw]
  rfl

/-- Settles O10: each frame is the encoding of its request, byte for byte. -/
theorem fixedRequestsTransmit : Obligations.FixedRequestsTransmit := by
  intro s hw
  have sends {i : Instr} {F : List Byte} (h : encode i = .frame .tx F) := exec_of_encode_tx_of_completes hw h
  exact ⟨sends (by decide), sends (by decide), sends (by decide), sends (by decide), sends (by decide), sends (by decide),
    sends (by decide), sends (by decide), sends (by decide), sends (by decide)⟩

/-- After close the block takes no step (R159). -/
theorem step_of_closed {s : State} (h : s.session.isOpen = false) : step s = .fault .sessionClosed := by
  simp [step_eq_runFetched, fetch, h]

/-- Settles O14: what the host notes of POWEROFF is that the session is closed. -/
theorem powerOffEndsTheRun : Obligations.PowerOffEndsTheRun := by
  intro s t hw h
  rw [exec_of_encode_tx_of_completes hw (i := .poweroff) rfl] at h
  cases h
  exact step_of_closed rfl

/-! ### The frames of the requests with operands -/

/-- The checksum as that of the header and that of the payload (R44). -/
theorem mkFrame_eq_of_sum {ty : Byte} {p : List Byte} {l c : Byte} (hl : BitVec.ofNat 8 (p.length + 2) = l)
    (hc : sum8 [startMarker, ty, l] = c) : mkFrame ty p = [0x24, ty, l] ++ p ++ [c + sum8 p, 0x23] := by
  subst hl hc
  rw [mkFrame_eq_wire, sum8_append]
  rfl

theorem bytes16_append (hi lo : Byte) : bytes16 (hi ++ lo) = [hi, lo] := by
  obtain ⟨hhi, hlo⟩ := (append2_eq_iff hi lo (hi ++ lo)).mp rfl
  rw [bytes16, ← hhi, ← hlo]

theorem mkFrame_setid (hi lo : Byte) :
    mkFrame tySetid (bytes16 (hi ++ lo)) = [0x24, 0x0D, 0x04, hi, lo, 0x35 + hi + lo, 0x23] := by
  rw [bytes16_append, mkFrame_eq_of_sum (l := 0x04) (c := 0x35) rfl (by decide)]
  simp [sum8, tySetid, BitVec.add_assoc]

theorem mkFrame_label (l : Vector Byte 16) :
    mkFrame tyLabel l.toList = [0x24, 0x11, 0x12] ++ l.toList ++ [0x47 + sum8 l.toList, 0x23] :=
  mkFrame_eq_of_sum (by rw [l.length_toList]; rfl) (by decide)

theorem mkFrame_vibro (a b c d e r : Byte) : mkFrame tyVibro [a, b, c, d, e, r] =
    [0x24, 0x60, 0x08, a, b, c, d, e, r, 0x8C + a + b + c + d + e + r, 0x23] := by
  rw [mkFrame_eq_of_sum (l := 0x08) (c := 0x8C) rfl (by decide)]
  simp [sum8, tyVibro, BitVec.add_assoc]

/-! ### An entry of the host's surface with one request -/

/-- No error has come back since the entry in progress began. -/
theorem seqFailed_of_length_le {s : State} {q : HostSeq} (hq : s.session.seq = some q) (h : s.results.length ≤ q.start) :
    s.seqFailed = false := by
  unfold State.seqFailed
  split
  next hq' _ =>
    rw [hq] at hq'
    cases hq'
    simpa using h
  next => rfl

/-- The last operation returned a frame, so no entry has just failed. -/
theorem seqFailed_of_frame {s : State} {rs : List Result} {F : List Byte} (h : s.results = rs ++ [.frame F]) :
    s.seqFailed = false := by
  unfold State.seqFailed
  split
  next hlast => simp [h] at hlast
  next => rfl

/-- `s` in an entry that has just begun, with the calls `cs` to come. -/
def entered (c : Bool) (cs : List HostCall) (s : State) : State :=
  (s.setCalls cs).setSeq (some { connecting := c, start := s.results.length })

theorem step_seqBegin {s : State} {c : Bool} {cs : List HostCall} (ht : HostTurn s)
    (hs : s.hostCalls = .seqBegin c :: cs) : step s = .next (entered c cs s) := by
  rw [step_of_hostTurn ht, fetchCall, hs]
  rfl

theorem hostTurn_entered (c : Bool) (cs : List HostCall) {s : State} (ht : HostTurn s) : HostTurn (entered c cs s) := by
  obtain ⟨hopen, hcall, -⟩ := ht
  exact ⟨hopen, hcall, seqFailed_of_length_le rfl le_rfl⟩

theorem step_seqEnd {s : State} {cs : List HostCall} (ht : HostTurn s) (hs : s.hostCalls = .seqEnd :: cs) :
    step s = .next ((s.setCalls cs).setSeq none) := by
  rw [step_of_hostTurn ht, fetchCall, hs]
  rfl

theorem step_decodeNext {s : State} {e : Byte} {cs : List HostCall} (ht : HostTurn s)
    (hs : s.hostCalls = .decodeNext e :: cs) : step s = .next ((s.setCalls cs).startCall e) := by
  rw [step_of_hostTurn ht, fetchCall, hs]
  rfl

theorem step_send {s : State} {i : Instr} {F : List Byte} {cs : List HostCall} (ht : HostTurn s)
    (hs : s.hostCalls = .send F :: cs) (hd : decode (.frame .tx F) = .ok i) : step s = exec i (s.setCalls cs) := by
  rw [step_of_hostTurn ht, fetchCall, hs]
  exact runFetched_packet _ hd

/-- `s` in an entry that has sent `F`, with the calls `cs` to come. -/
def entrySent (c : Bool) (F : List Byte) (cs : List HostCall) (s : State) : State :=
  afterWrite F (entered c cs s).session (entered c cs s)

theorem hostTurn_entrySent (c : Bool) (F : List Byte) (cs : List HostCall) {s : State} (ht : HostTurn s) :
    HostTurn (entrySent c F cs s) := by
  obtain ⟨hopen, hcall, -⟩ := ht
  exact ⟨hopen, hcall, seqFailed_of_frame rfl⟩

/-- An entry that begins with a request of which the host notes nothing: two steps send it. -/
theorem run_entry_send {s : State} {c : Bool} {i : Instr} {F : List Byte} {cs : List HostCall} (ht : HostTurn s)
    (hw : WriteCompletes s) (hs : s.hostCalls = .seqBegin c :: .send F :: cs) (hi : i.wellFormed = true)
    (hencode : encode i = .frame .tx F) (hnote : noteOfRequest i = id) : run 2 s = .next (entrySent c F cs s) := by
  have hd : decode (.frame .tx F) = .ok i := hencode ▸ decodeEncodeRoundTrip i hi
  have hsend := step_send (hostTurn_entered c (.send F :: cs) ht) rfl hd
  have hw' : WriteCompletes ((entered c (.send F :: cs) s).setCalls cs) := hw
  rw [exec_of_encode_tx_of_completes hw' hencode, hnote] at hsend
  rw [run_succ (step_seqBegin ht hs), run_one hsend]
  rfl

/-- The entry ends after its request (R57). -/
theorem run_entry_send_seqEnd {s : State} {c : Bool} {i : Instr} {F : List Byte} {cs : List HostCall} (ht : HostTurn s)
    (hw : WriteCompletes s) (hs : s.hostCalls = entry c [.send F] ++ cs) (hi : i.wellFormed = true)
    (hencode : encode i = .frame .tx F) (hnote : noteOfRequest i = id) :
    run 3 s = .next (afterWrite F { s.session with seq := none } (s.setCalls cs)) := by
  have hsent := run_entry_send (cs := .seqEnd :: cs) ht hw hs hi hencode hnote
  rw [run_add hsent 1, run_one (step_seqEnd (hostTurn_entrySent _ _ _ ht) rfl)]
  rfl

/-- The entry awaits a response after its request (R57). -/
theorem run_entry_send_decodeNext {s : State} {c : Bool} {i : Instr} {F : List Byte} {e : Byte} {cs : List HostCall}
    (ht : HostTurn s) (hw : WriteCompletes s) (hs : s.hostCalls = entry c [.send F, .decodeNext e] ++ cs)
    (hi : i.wellFormed = true) (hencode : encode i = .frame .tx F) (hnote : noteOfRequest i = id) :
    run 3 s = .next ((entrySent c F (.seqEnd :: cs) s).startCall e) := by
  have hsent := run_entry_send (cs := .decodeNext e :: .seqEnd :: cs) ht hw hs hi hencode hnote
  rw [run_add hsent 1, run_one (step_decodeNext (hostTurn_entrySent _ _ _ ht) rfl)]
  rfl

/-! ### The operands the host computes -/

/-- A label of at most 16 bytes is padded with null bytes (R118). -/
theorem exists_padLabel {str : List Byte} (h : str.length ≤ 16) :
    ∃ l, padLabel str = some l ∧ l.toList = str ++ List.replicate (16 - str.length) 0 := by
  rw [padLabel, dif_pos h]
  exact ⟨_, rfl, rfl⟩

theorem padLabel_of_gt {str : List Byte} (h : 16 < str.length) : padLabel str = none := dif_neg (by omega)

/-- Every payload of six bytes is one of VIBRO (R125). -/
theorem exists_vibro_of_length {p : List Byte} (h : p.length = 6) :
    ∃ a b c d e r, encode (.vibro a b c d e r) = .frame .tx (mkFrame tyVibro p) := by
  match p, h with
  | [a, b, c, d, e, r], _ => exact ⟨a, b, c, d, e, r, rfl⟩

/-- Settles O11: the three frames written out, and the two entries with the frame the host computed. -/
theorem operandRequestsTransmit : Obligations.OperandRequestsTransmit := by
  intro s hw
  refine ⟨?setid, ?label, ?vibro, ?setLabel, ?longLabel, ?setVibro⟩
  case setid =>
    intro hi lo
    exact exec_of_encode_tx_of_completes hw (congrArg _ (mkFrame_setid hi lo))
  case label =>
    intro l
    exact exec_of_encode_tx_of_completes hw (congrArg _ (mkFrame_label l))
  case vibro =>
    intro a b c d e r
    exact exec_of_encode_tx_of_completes hw (congrArg _ (mkFrame_vibro a b c d e r))
  case setLabel =>
    intro str cs ht hlen
    obtain ⟨l, hpad, hl⟩ := exists_padLabel hlen
    refine ⟨entry false [.send (mkFrame tyLabel l.toList), .decodeNext tyLabel], by rw [setLabel, hpad], fun hs => ?_⟩
    rw [← hl]
    exact run_entry_send_decodeNext (i := .labelSet l) ht hw hs rfl rfl rfl
  case longLabel =>
    intro str hlen
    rw [setLabel, padLabel_of_gt hlen]
  case setVibro =>
    intro v cs ht hs
    obtain ⟨a, b, c, d, e, r, hencode⟩ :=
      exists_vibro_of_length (p := v.toList.map vibroByte ++ [s.cfg.vibroReserved]) (by simp)
    exact run_entry_send_seqEnd ht hw hs rfl hencode rfl

end Sys2Proof.Transmitting
end

section
/-! PROOFS. The vibro byte (R125). `round` is nearest under every tie rule; range, ends and the exact points follow from that,
because their arguments are whole numbers. -/

open Sys2Proof Sys2Proof.Machine

namespace Sys2Proof.VibroByte

theorem clampUnit_eq (v : Rat) : clampUnit v = max 0 (min v 1) := by
  unfold clampUnit
  split_ifs with hneg hone
  · rw [min_eq_left (by linarith), max_eq_left hneg.le]
  · rw [min_eq_right hone.le, max_eq_right zero_le_one]
  · rw [min_eq_left (not_lt.mp hone), max_eq_right (not_lt.mp hneg)]

/-- Rounding down or up, whichever the tie rule says, goes to a nearest natural number. -/
theorem abs_roundTies_sub_le {x : Rat} (hx : 0 ≤ x) : |(roundTies x : Rat) - x| ≤ 1 / 2 := by
  have hfloor : ((x.floor.toNat : Nat) : Rat) = ⌊x⌋ := by
    exact_mod_cast Int.toNat_of_nonneg (Int.floor_nonneg.mpr hx)
  have hle := Int.floor_le x
  have hlt := Int.lt_floor_add_one x
  simp only [roundTies, hfloor]
  rw [abs_le]
  split_ifs <;> push_cast [hfloor] <;> constructor <;> linarith

/-- Two natural numbers less than 1 apart are one. -/
theorem eq_of_abs_sub_le_half {m n : Nat} (h : |(m : Rat) - n| ≤ 1 / 2) : m = n := by
  have hlt : |(m : Int) - n| < 1 := by
    have : |(m : Rat) - n| < 1 := h.trans_lt (by norm_num)
    exact_mod_cast this
  have := Int.abs_lt_one_iff.mp hlt
  omega

/-- The number that the byte of `v` is the rounding of. -/
def scaled (v : Rat) : Rat := 140 * max 0 (min v 1) + 110

theorem scaled_bounds (v : Rat) : 110 ≤ scaled v ∧ scaled v ≤ 250 := by
  have hlow : 0 ≤ max 0 (min v 1) := le_max_left _ _
  have hhigh : max 0 (min v 1) ≤ 1 := max_le zero_le_one (min_le_right _ _)
  unfold scaled
  constructor <;> linarith

theorem roundTies_bounds {x : Rat} (h : 110 ≤ x ∧ x ≤ 250) : 110 ≤ roundTies x ∧ roundTies x ≤ 250 := by
  obtain ⟨hlow, hhigh⟩ := h
  obtain ⟨hbelow, habove⟩ := abs_le.mp (abs_roundTies_sub_le (x := x) (by linarith))
  have hlow' : (109 : Rat) < roundTies x := by linarith
  have hhigh' : (roundTies x : Rat) < 251 := by linarith
  have : 109 < roundTies x := by exact_mod_cast hlow'
  have : roundTies x < 251 := by exact_mod_cast hhigh'
  omega

theorem vibroByte_toNat (v : Rat) : (vibroByte v).toNat = roundTies (scaled v) := by
  have hbounds := roundTies_bounds (scaled_bounds v)
  rw [vibroByte, clampUnit_eq, mul_comm, ← scaled, BitVec.toNat_ofNat, Nat.mod_eq_of_lt (by omega)]

theorem abs_vibroByte_sub_le (v : Rat) : |((vibroByte v).toNat : Rat) - scaled v| ≤ 1 / 2 := by
  rw [vibroByte_toNat]
  exact abs_roundTies_sub_le (by linarith [(scaled_bounds v).1])

/-- Where the scaled intensity is a whole number, the byte is that number. -/
theorem vibroByte_toNat_of_scaled {v : Rat} {n : Nat} (h : scaled v = n) : (vibroByte v).toNat = n :=
  eq_of_abs_sub_le_half (h ▸ abs_vibroByte_sub_le v)

theorem scaled_of_le_zero {v : Rat} (h : v ≤ 0) : scaled v = (110 : Nat) := by
  rw [scaled, max_eq_left (min_le_of_left_le h)]
  norm_num

theorem scaled_of_one_le {v : Rat} (h : 1 ≤ v) : scaled v = (250 : Nat) := by
  rw [scaled, min_eq_right h, max_eq_right zero_le_one]
  norm_num

theorem scaled_div {n : Nat} (h : n ≤ 140) : scaled ((n : Rat) / 140) = (n + 110 : Nat) := by
  have hle : (n : Rat) / 140 ≤ 1 := (div_le_one (by norm_num)).mpr (by exact_mod_cast h)
  rw [scaled, min_eq_left hle, max_eq_right (by positivity), mul_div_cancel₀ _ (by norm_num), Nat.cast_add]
  rfl

/-- Settles O13: the byte is the nearest one, and the rest are bounds and values of what is rounded. -/
theorem vibroBytesClampAndScale : Obligations.VibroBytesClampAndScale := by
  refine ⟨fun v => ?range, fun v hv => ?low, fun v hv => ?high, abs_vibroByte_sub_le, fun n hn => ?whole⟩
  case range =>
    rw [vibroByte_toNat]
    exact roundTies_bounds (scaled_bounds v)
  case low => exact BitVec.eq_of_toNat_eq (vibroByte_toNat_of_scaled (scaled_of_le_zero hv))
  case high => exact BitVec.eq_of_toNat_eq (vibroByte_toNat_of_scaled (scaled_of_one_le hv))
  case whole => exact vibroByte_toNat_of_scaled (scaled_div hn)

end Sys2Proof.VibroByte
end

section
/-! PROOFS. The host's actions that are no instruction (R143, R57): each of its calls by the branch of the fetch that serves
it, and the entry of its surface that an error ends (R140). -/

open Sys2Proof Sys2Proof.Machine Sys2Proof.Claims Sys2Proof.StepKeeps Sys2Proof.Transmitting

namespace Sys2Proof.HostActions

/-! ### Calls that fetch no packet -/

theorem step_of_fetchCall_quiet {s t : State} (ht : HostTurn s) (hf : fetchCall s = .quiet t) : step s = .next t := by
  rw [step_of_hostTurn ht, hf, runFetched_quiet]

theorem step_writeExpected {s : State} {e : Byte} {cs : List HostCall} (ht : HostTurn s)
    (hs : s.hostCalls = .writeExpected e :: cs) : step s = .next ((s.setCalls cs).setExpected e) :=
  step_of_fetchCall_quiet ht (by rw [fetchCall, hs])

theorem step_settle {s : State} {cs : List HostCall} (ht : HostTurn s) (hs : s.hostCalls = .settle :: cs) :
    step s = .next (s.setCalls cs) :=
  step_of_fetchCall_quiet ht (by rw [fetchCall, hs])

theorem step_close {s : State} {cs : List HostCall} (ht : HostTurn s) (hs : s.hostCalls = .close :: cs) :
    step s = .next (s.setCalls cs).closeSession :=
  step_of_fetchCall_quiet ht (by rw [fetchCall, hs])

/-! ### The calibration loop -/

theorem step_calibLoop_of_running {s : State} {ps : List Byte} {cs : List HostCall} (ht : HostTurn s)
    (hs : s.hostCalls = .calibLoop :: cs) (hcalib : s.session.calib = .running ps) :
    step s = .next (s.setCalls (.decodeNext tyCalib :: .calibLoop :: cs)) :=
  step_of_fetchCall_quiet ht (by simp only [fetchCall, hs, hcalib])

theorem step_calibLoop_of_not_running {s : State} {cs : List HostCall} (ht : HostTurn s)
    (hs : s.hostCalls = .calibLoop :: cs) (hcalib : ∀ ps, s.session.calib ≠ .running ps) :
    step s = .next (s.setCalls cs) := by
  refine step_of_fetchCall_quiet ht ?_
  cases hc : s.session.calib with
  | running ps => exact absurd hc (hcalib ps)
  | _ => simp only [fetchCall, hs, hc]

/-! ### `SDEC` of the last payload -/

theorem lastPayload_eq_some_iff {s : State} {P : List Byte} :
    lastPayload s = some P ↔ s.results.getLast? = some (.payload P) := by
  unfold lastPayload
  split
  next Q hlast => simp [hlast]
  next hnone => simpa using hnone P

theorem step_sdecLast_of_payload {s : State} {P : List Byte} {cs : List HostCall} (ht : HostTurn s)
    (hs : s.hostCalls = .sdecLast :: cs) (hP : s.results.getLast? = some (.payload P)) :
    step s = exec (decodeSdec P) (s.setCalls cs) := by
  have hf : fetchCall s = .packet (.sdec P) (s.setCalls cs) := by
    simp only [fetchCall, hs, lastPayload_eq_some_iff.mpr hP]
  rw [step_of_hostTurn ht, hf, runFetched_sdec]

theorem step_sdecLast_of_no_payload {s : State} {cs : List HostCall} (ht : HostTurn s)
    (hs : s.hostCalls = .sdecLast :: cs) (hP : ∀ P, s.results.getLast? ≠ some (.payload P)) :
    step s = .next (s.setCalls cs) := by
  have hnone : lastPayload s = none :=
    Option.eq_none_iff_forall_ne_some.mpr fun P h => hP P (lastPayload_eq_some_iff.mp h)
  exact step_of_fetchCall_quiet ht (by simp only [fetchCall, hs, hnone])

/-! ### An entry that an error ends -/

/-- What follows the end of the entry in progress, which is the first one in the host's calls. -/
theorem afterSeq_append_seqEnd {skipped : List HostCall} (after : List HostCall) (h : .seqEnd ∉ skipped) :
    afterSeq (skipped ++ .seqEnd :: after) = after := by
  induction skipped with
  | nil => rfl
  | cons c skipped ih =>
    cases c with
    | seqEnd => exact absurd List.mem_cons_self h
    | _ => exact ih (List.not_mem_of_not_mem_cons h)

/-- The last operation of the entry in progress raised an error, so the entry has failed. -/
theorem seqFailed_of_error {s : State} {q : HostSeq} {e : Err} {rs : List Result} (hq : s.session.seq = some q)
    (hstart : q.start ≤ rs.length) (h : s.results = rs ++ [.error e]) : s.seqFailed = true := by
  have hlt : q.start < rs.length + 1 := Nat.lt_succ_of_le hstart
  simpa [State.seqFailed, hq, h] using hlt

/-- Settles O59: each action by its step, on the host's turn by its next call and past a failed entry by skipping to its
end. -/
theorem hostActionsStep : Obligations.HostActionsStep := by
  refine ⟨fun s cs ht => ⟨fun _ => step_decodeNext ht, fun _ => step_writeExpected ht, step_settle ht, ?close,
    fun hs _ => step_sdecLast_of_payload ht hs, step_sdecLast_of_no_payload ht,
    fun hs _ => step_calibLoop_of_running ht hs, step_calibLoop_of_not_running ht, fun _ => step_seqBegin ht,
    step_seqEnd ht⟩, ?failed⟩
  case close => exact fun hs => ⟨_, step_close ht hs, rfl, step_of_closed rfl⟩
  case failed =>
    intro s q e rs skipped after hopen hcall hq hstart hresults hskipped hs
    have hfailed := seqFailed_of_error hq hstart hresults
    rw [step_of_seqFailed hopen hcall hfailed, hs, afterSeq_append_seqEnd after hskipped]
    rfl

end Sys2Proof.HostActions
end
